-- ==== Sys2Proof/Word.lean ====
section
/-!
DEFINITION. The words, the fixed-size rows and the names (enumerations) that the manual uses: lanes, bays, probe
channels, classes, programmes, tariffs, modes, causes, marks.
-/

namespace Sys2Proof

/-- One byte of the link (chapter 11). -/
abbrev Byte := BitVec 8

/-- A sequence number of the Invoice Ring, 0..4,294,967,295 with 0 after the last (R178). -/
abbrev Seq := BitVec 32

/-- A tag number, a 40-bit number (R8); 0 is no tag. -/
abbrev TagNo := Nat

/-! ## Rows of a fixed number of like things -/

/-- One thing for each of two places. -/
structure Pair (α : Type) where
  p1 : α
  p2 : α
deriving DecidableEq, Repr

/-- One thing for each of four places. -/
structure Four (α : Type) where
  f1 : α
  f2 : α
  f3 : α
  f4 : α
deriving DecidableEq, Repr

/-- One thing for each of six places. -/
structure Six (α : Type) where
  s1 : α
  s2 : α
  s3 : α
  s4 : α
  s5 : α
  s6 : α
deriving DecidableEq, Repr

/-- One thing for each of eight places. -/
structure Eight (α : Type) where
  e1 : α
  e2 : α
  e3 : α
  e4 : α
  e5 : α
  e6 : α
  e7 : α
  e8 : α
deriving DecidableEq, Repr

/-- One thing for each of twelve places. -/
structure Twelve (α : Type) where
  d1 : α
  d2 : α
  d3 : α
  d4 : α
  d5 : α
  d6 : α
  d7 : α
  d8 : α
  d9 : α
  d10 : α
  d11 : α
  d12 : α
deriving DecidableEq, Repr

/-! ## Numbered places -/

/-- One of the two entry lanes (chapter 2). -/
inductive Lane
  | lane1 | lane2
deriving DecidableEq, Repr

/-- One of the six wash bays (chapter 4). -/
inductive Bay
  | bay1 | bay2 | bay3 | bay4 | bay5 | bay6
deriving DecidableEq, Repr

/-- One of the eight probe channels CH0..CH7 (chapter 6). -/
inductive Channel
  | ch0 | ch1 | ch2 | ch3 | ch4 | ch5 | ch6 | ch7
deriving DecidableEq, Repr

/-- One of the eight vehicle classes (R2). -/
inductive Cls
  | class1 | class2 | class3 | class4 | class5 | class6 | class7 | class8
deriving DecidableEq, Repr

/-- One of the twelve programmes (R12), and of the twelve programme keys of a lane's keypad (R22). -/
inductive Prog
  | prog1 | prog2 | prog3 | prog4 | prog5 | prog6 | prog7 | prog8 | prog9 | prog10 | prog11 | prog12
deriving DecidableEq, Repr

/-- One of the eight tariffs 0..7; tariff 0 is the casual tariff (R10). -/
inductive Trf
  | tariff0 | tariff1 | tariff2 | tariff3 | tariff4 | tariff5 | tariff6 | tariff7
deriving DecidableEq, Repr

/-- One of the four filter cartridges (R148). -/
inductive Cart
  | cart1 | cart2 | cart3 | cart4
deriving DecidableEq, Repr

/-- One of the two supply channels (R140). -/
inductive Supply
  | supply1 | supply2
deriving DecidableEq, Repr

/-- Treadle A or treadle B of a lane (R21). -/
inductive Treadle
  | a | b
deriving DecidableEq, Repr

/-- The two presence sensors of a bay (R65). -/
inductive Presence
  | wheelStop | rearBeam
deriving DecidableEq, Repr

/-- The two water meters of a bay (R92). -/
inductive Meter
  | fresh | recycled
deriving DecidableEq, Repr

/-! ## Reading and writing one place -/

def Pair.get {α : Type} (v : Pair α) : Lane → α
  | .lane1 => v.p1
  | .lane2 => v.p2

def Pair.set {α : Type} (v : Pair α) (i : Lane) (x : α) : Pair α :=
  match i with
  | .lane1 => { v with p1 := x }
  | .lane2 => { v with p2 := x }

def Pair.chan {α : Type} (v : Pair α) : Supply → α
  | .supply1 => v.p1
  | .supply2 => v.p2

def Pair.setChan {α : Type} (v : Pair α) (i : Supply) (x : α) : Pair α :=
  match i with
  | .supply1 => { v with p1 := x }
  | .supply2 => { v with p2 := x }

def Four.get {α : Type} (v : Four α) : Cart → α
  | .cart1 => v.f1
  | .cart2 => v.f2
  | .cart3 => v.f3
  | .cart4 => v.f4

def Six.get {α : Type} (v : Six α) : Bay → α
  | .bay1 => v.s1
  | .bay2 => v.s2
  | .bay3 => v.s3
  | .bay4 => v.s4
  | .bay5 => v.s5
  | .bay6 => v.s6

def Six.set {α : Type} (v : Six α) (i : Bay) (x : α) : Six α :=
  match i with
  | .bay1 => { v with s1 := x }
  | .bay2 => { v with s2 := x }
  | .bay3 => { v with s3 := x }
  | .bay4 => { v with s4 := x }
  | .bay5 => { v with s5 := x }
  | .bay6 => { v with s6 := x }

def Six.toList {α : Type} (v : Six α) : List α := [v.s1, v.s2, v.s3, v.s4, v.s5, v.s6]

/-- The same thing at all six places. -/
def Six.all {α : Type} (x : α) : Six α := ⟨x, x, x, x, x, x⟩

def Eight.getCh {α : Type} (v : Eight α) : Channel → α
  | .ch0 => v.e1
  | .ch1 => v.e2
  | .ch2 => v.e3
  | .ch3 => v.e4
  | .ch4 => v.e5
  | .ch5 => v.e6
  | .ch6 => v.e7
  | .ch7 => v.e8

def Eight.setCh {α : Type} (v : Eight α) (i : Channel) (x : α) : Eight α :=
  match i with
  | .ch0 => { v with e1 := x }
  | .ch1 => { v with e2 := x }
  | .ch2 => { v with e3 := x }
  | .ch3 => { v with e4 := x }
  | .ch4 => { v with e5 := x }
  | .ch5 => { v with e6 := x }
  | .ch6 => { v with e7 := x }
  | .ch7 => { v with e8 := x }

def Eight.getCls {α : Type} (v : Eight α) : Cls → α
  | .class1 => v.e1
  | .class2 => v.e2
  | .class3 => v.e3
  | .class4 => v.e4
  | .class5 => v.e5
  | .class6 => v.e6
  | .class7 => v.e7
  | .class8 => v.e8

def Eight.setCls {α : Type} (v : Eight α) (i : Cls) (x : α) : Eight α :=
  match i with
  | .class1 => { v with e1 := x }
  | .class2 => { v with e2 := x }
  | .class3 => { v with e3 := x }
  | .class4 => { v with e4 := x }
  | .class5 => { v with e5 := x }
  | .class6 => { v with e6 := x }
  | .class7 => { v with e7 := x }
  | .class8 => { v with e8 := x }

def Eight.getTrf {α : Type} (v : Eight α) : Trf → α
  | .tariff0 => v.e1
  | .tariff1 => v.e2
  | .tariff2 => v.e3
  | .tariff3 => v.e4
  | .tariff4 => v.e5
  | .tariff5 => v.e6
  | .tariff6 => v.e7
  | .tariff7 => v.e8

def Eight.setTrf {α : Type} (v : Eight α) (i : Trf) (x : α) : Eight α :=
  match i with
  | .tariff0 => { v with e1 := x }
  | .tariff1 => { v with e2 := x }
  | .tariff2 => { v with e3 := x }
  | .tariff3 => { v with e4 := x }
  | .tariff4 => { v with e5 := x }
  | .tariff5 => { v with e6 := x }
  | .tariff6 => { v with e7 := x }
  | .tariff7 => { v with e8 := x }

def Eight.toList {α : Type} (v : Eight α) : List α := [v.e1, v.e2, v.e3, v.e4, v.e5, v.e6, v.e7, v.e8]

/-- The same thing at all eight places. -/
def Eight.all {α : Type} (x : α) : Eight α := ⟨x, x, x, x, x, x, x, x⟩

def Twelve.get {α : Type} (v : Twelve α) : Prog → α
  | .prog1 => v.d1
  | .prog2 => v.d2
  | .prog3 => v.d3
  | .prog4 => v.d4
  | .prog5 => v.d5
  | .prog6 => v.d6
  | .prog7 => v.d7
  | .prog8 => v.d8
  | .prog9 => v.d9
  | .prog10 => v.d10
  | .prog11 => v.d11
  | .prog12 => v.d12

def Twelve.set {α : Type} (v : Twelve α) (i : Prog) (x : α) : Twelve α :=
  match i with
  | .prog1 => { v with d1 := x }
  | .prog2 => { v with d2 := x }
  | .prog3 => { v with d3 := x }
  | .prog4 => { v with d4 := x }
  | .prog5 => { v with d5 := x }
  | .prog6 => { v with d6 := x }
  | .prog7 => { v with d7 := x }
  | .prog8 => { v with d8 := x }
  | .prog9 => { v with d9 := x }
  | .prog10 => { v with d10 := x }
  | .prog11 => { v with d11 := x }
  | .prog12 => { v with d12 := x }

/-- The same thing at all twelve places. -/
def Twelve.all {α : Type} (x : α) : Twelve α := ⟨x, x, x, x, x, x, x, x, x, x, x, x⟩

def Twelve.toList {α : Type} (v : Twelve α) : List α :=
  [v.d1, v.d2, v.d3, v.d4, v.d5, v.d6, v.d7, v.d8, v.d9, v.d10, v.d11, v.d12]

/-! ## Numbers of the places -/

def Lane.all : List Lane := [.lane1, .lane2]

def Bay.all : List Bay := [.bay1, .bay2, .bay3, .bay4, .bay5, .bay6]

def Channel.all : List Channel := [.ch0, .ch1, .ch2, .ch3, .ch4, .ch5, .ch6, .ch7]

def Prog.all : List Prog :=
  [.prog1, .prog2, .prog3, .prog4, .prog5, .prog6, .prog7, .prog8, .prog9, .prog10, .prog11, .prog12]

def Lane.num : Lane → Nat
  | .lane1 => 1
  | .lane2 => 2

def Bay.num : Bay → Nat
  | .bay1 => 1
  | .bay2 => 2
  | .bay3 => 3
  | .bay4 => 4
  | .bay5 => 5
  | .bay6 => 6

def Channel.num : Channel → Nat
  | .ch0 => 0
  | .ch1 => 1
  | .ch2 => 2
  | .ch3 => 3
  | .ch4 => 4
  | .ch5 => 5
  | .ch6 => 6
  | .ch7 => 7

def Cls.num : Cls → Nat
  | .class1 => 1
  | .class2 => 2
  | .class3 => 3
  | .class4 => 4
  | .class5 => 5
  | .class6 => 6
  | .class7 => 7
  | .class8 => 8

def Prog.num : Prog → Nat
  | .prog1 => 1
  | .prog2 => 2
  | .prog3 => 3
  | .prog4 => 4
  | .prog5 => 5
  | .prog6 => 6
  | .prog7 => 7
  | .prog8 => 8
  | .prog9 => 9
  | .prog10 => 10
  | .prog11 => 11
  | .prog12 => 12

def Trf.num : Trf → Nat
  | .tariff0 => 0
  | .tariff1 => 1
  | .tariff2 => 2
  | .tariff3 => 3
  | .tariff4 => 4
  | .tariff5 => 5
  | .tariff6 => 6
  | .tariff7 => 7

def Cart.num : Cart → Nat
  | .cart1 => 1
  | .cart2 => 2
  | .cart3 => 3
  | .cart4 => 4

def Supply.num : Supply → Nat
  | .supply1 => 1
  | .supply2 => 2

/-- Lanes are numbered 1 and 2; any other number names none. -/
def Lane.ofNat? : Nat → Option Lane
  | 1 => some .lane1
  | 2 => some .lane2
  | _ => none

/-- Bays are numbered 1..6. -/
def Bay.ofNat? : Nat → Option Bay
  | 1 => some .bay1
  | 2 => some .bay2
  | 3 => some .bay3
  | 4 => some .bay4
  | 5 => some .bay5
  | 6 => some .bay6
  | _ => none

/-- Probe channels are numbered 0..7. -/
def Channel.ofNat? : Nat → Option Channel
  | 0 => some .ch0
  | 1 => some .ch1
  | 2 => some .ch2
  | 3 => some .ch3
  | 4 => some .ch4
  | 5 => some .ch5
  | 6 => some .ch6
  | 7 => some .ch7
  | _ => none

/-- Classes are numbered 1..8. -/
def Cls.ofNat? : Nat → Option Cls
  | 1 => some .class1
  | 2 => some .class2
  | 3 => some .class3
  | 4 => some .class4
  | 5 => some .class5
  | 6 => some .class6
  | 7 => some .class7
  | 8 => some .class8
  | _ => none

/-- Programmes are numbered 1..12. -/
def Prog.ofNat? : Nat → Option Prog
  | 1 => some .prog1
  | 2 => some .prog2
  | 3 => some .prog3
  | 4 => some .prog4
  | 5 => some .prog5
  | 6 => some .prog6
  | 7 => some .prog7
  | 8 => some .prog8
  | 9 => some .prog9
  | 10 => some .prog10
  | 11 => some .prog11
  | 12 => some .prog12
  | _ => none

/-- Tariffs are numbered 0..7. -/
def Trf.ofNat? : Nat → Option Trf
  | 0 => some .tariff0
  | 1 => some .tariff1
  | 2 => some .tariff2
  | 3 => some .tariff3
  | 4 => some .tariff4
  | 5 => some .tariff5
  | 6 => some .tariff6
  | 7 => some .tariff7
  | _ => none

/-! ## Names of modes, roles, kinds and causes -/

/-- The depot modes, in the order of the table of section 9.5. -/
inductive DepotMode
  | opened | hold | closed | drain | refill
deriving DecidableEq, Repr

/-- An account's status (R4). -/
inductive AccountStatus
  | active | blocked
deriving DecidableEq, Repr

/-- A tag's role (R8). -/
inductive Role
  | powered | trailer
deriving DecidableEq, Repr

/-- A lane's axle counter mode (R23, R24). -/
inductive AxleMode
  | overlap | spaced
deriving DecidableEq, Repr

/-- The supply's lead mode (section 8.6). -/
inductive LeadMode
  | variable | fixed
deriving DecidableEq, Repr

/-- A phase's kind (R12). -/
inductive PhaseKind
  | wet | dry
deriving DecidableEq, Repr

/-- A phase's sweep mode (R103). -/
inductive SweepMode
  | linear | hybrid | wrap
deriving DecidableEq, Repr

/-- A flag action (R126), weakest first. -/
inductive FlagAction
  | note | zero | skip | abort
deriving DecidableEq, Repr

/-- The service that BAY_SERVICE asks for (R83). -/
inductive ServiceWanted
  | inService | outOfService
deriving DecidableEq, Repr

/-- The cause of a warm restart as START reports it (R205). -/
inductive RestartCause
  | resetLine | powerUp
deriving DecidableEq, Repr

/-! ## The body of a request -/

/-- What a request's frame carries as its body: the fields of its kind, or a body whose length is not the one the kind
(or the count within the body) gives, which the owner answers BAD_LENGTH (R1, R200). -/
inductive Body (α : Type)
  | fields (f : α)
  | wrongLength
deriving DecidableEq, Repr

/-- The levels of a lane's inputs at a start (R44). -/
structure LaneLevels where
  treadleA : Bool
  treadleB : Bool
  stopBeam : Bool
  clearBeam : Bool
deriving DecidableEq, Repr

/-- The levels of a bay's inputs at a start (R88). -/
structure BayLevels where
  wheelStop : Bool
  rearBeam : Bool
deriving DecidableEq, Repr

/-- The levels of all lane and bay inputs as they stand at a start (R44, R88). -/
structure FieldLevels where
  lanes : Pair LaneLevels
  bays : Six BayLevels
deriving DecidableEq, Repr

/-- No treadle pressed, no beam broken, no wheel stop pressed. -/
def FieldLevels.quiet : FieldLevels where
  lanes := ⟨⟨false, false, false, false⟩, ⟨false, false, false, false⟩⟩
  bays := Six.all ⟨false, false⟩

end Sys2Proof
end

