-- ==== Sys2Proof/Syntax.lean ====
section
/-!
DEFINITION. The commands of the part: one constructor of Instr for each row of spec/opcode_table.json, with the row's
operands. Before it, the body fields of each request as the host sends them: numbers as they stand in the body (they
may lie outside their range: the owner answers RANGE), and for a field that names one of a few things, `none` where its
byte names none of them.
-/

namespace Sys2Proof

/-- PUT_CLASS (R2). -/
structure PutClass where
  cls : Nat
  length : Nat
  axles : Nat
  factor : Nat
deriving DecidableEq, Repr

/-- PUT_ACCOUNT (R4). -/
structure PutAccount where
  number : Nat
  status : Option AccountStatus
  tariff : Nat
  programme : Nat
  credit : Nat
deriving DecidableEq, Repr

/-- PUT_TAG (R8). -/
structure PutTag where
  tag : TagNo
  account : Nat
  role : Option Role
  cls : Nat
deriving DecidableEq, Repr

/-- One tier of a tariff (R10): a threshold of period visits and a discount in percent. -/
structure Tier where
  threshold : Nat
  discount : Nat
deriving DecidableEq, Repr

/-- PUT_TARIFF (R10). -/
structure PutTariff where
  number : Nat
  prices : Twelve Nat
  allowed : Twelve Bool
  strayBits : Bool   -- a bit beyond programme 12 is set in the field of the allowed set
  axleRate : Nat
  freshRate : Nat
  tier1 : Tier
  tier2 : Tier
  tier3 : Tier
deriving DecidableEq, Repr

/-- One phase record as a PUT_PROGRAMME body carries it (R12, R13). -/
structure PhaseBody where
  kind : Option PhaseKind
  volume : Nat
  timeLimit : Nat
  condLimit : Nat
  turbLimit : Nat
  cap : Nat
  relax : Nat
  weight : Nat
  nozzleDelay : Nat
  nozzleOn : Nat
  nozzleFrame : Nat
  framesPerSegment : Nat
  sweepMode : Option SweepMode
  sweepGroup : Nat
  startSegment : Nat
  onStale : Option FlagAction
  onClamp : Option FlagAction
  onFresh : Option FlagAction
  onFilter : Option FlagAction
deriving DecidableEq, Repr

/-- PUT_PROGRAMME (R13); the phase count n is the number of records. -/
structure PutProgramme where
  number : Nat
  includedFresh : Nat
  phases : List PhaseBody
deriving DecidableEq, Repr

/-- SET_DEPOT (R16): every setting of R15 but the daily allowance, in the order of R15. Durations are in seconds, the
treadle debounce in ms, the charge hold in hours. -/
structure SetDepot where
  casualAdmission : Option Bool
  casualClass : Nat
  axleMode : Pair (Option AxleMode)
  debounce : Nat
  laneStall : Nat
  maxSegments : Six Nat
  lineVolume : Six Nat
  callTimeout : Nat
  seatingSettle : Nat
  grantTimeout : Nat
  startLead : Nat
  runOn : Nat
  filterInterval : Nat
  purgeDuration : Nat
  purgeVolume : Nat
  cartMask : Four Bool
  strayCarts : Bool   -- a bit beyond cartridge 4 is set in the field of the mask
  leadMode : Option LeadMode
  pitCapacity : Nat
  tankCapacity : Nat
  reserveFloor : Nat
  lowMark : Nat
  highMark : Nat
  carryOff : Nat
  allowanceThreshold : Nat
  autoFrost : Option Bool
  holdThreshold : Int
  drainThreshold : Int
  persistTime : Nat
  deferralMax : Nat
  chargeHold : Nat
  probeSettle : Eight Nat
  probePeriod : Eight Nat
  calLo : Eight Int
  calHi : Eight Int
deriving DecidableEq, Repr

/-- SET_MODE (R169). -/
structure SetMode where
  mode : Option DepotMode
  force : Bool
deriving DecidableEq, Repr

/-- SET_CLOCK (R208). -/
structure SetClock where
  day : Nat
  time : Nat
deriving DecidableEq, Repr

/-- BAY_SERVICE (R83). -/
structure BayService where
  bay : Nat
  wanted : Option ServiceWanted
deriving DecidableEq, Repr

/-- ASSIGN_BAY (R58); account 0 is a casual vehicle; the tag count is the number of tags. -/
structure AssignBay where
  bay : Nat
  account : Nat
  cls : Nat
  programme : Nat
  tags : List TagNo
deriving DecidableEq, Repr

/-- SETTLE_ACCOUNT (R194). -/
structure SettleAccount where
  account : Nat
  amount : Nat
deriving DecidableEq, Repr

/-- GET_VISIT (R61). -/
structure GetVisit where
  visit : Nat
  firstPhase : Nat
deriving DecidableEq, Repr

/-- The commands: the rows of spec/opcode_table.json, in the table's order. A request's first operand is its frame's
tag byte, the second its body. -/
inductive Instr
  | putClass (tag : Byte) (body : Body PutClass)
  | putAccount (tag : Byte) (body : Body PutAccount)
  | dropAccount (tag : Byte) (body : Body Nat)
  | putTag (tag : Byte) (body : Body PutTag)
  | dropTag (tag : Byte) (body : Body TagNo)
  | putTariff (tag : Byte) (body : Body PutTariff)
  | putProgramme (tag : Byte) (body : Body PutProgramme)
  | setDepot (tag : Byte) (body : Body SetDepot)
  | setMode (tag : Byte) (body : Body SetMode)
  | setClock (tag : Byte) (body : Body SetClock)
  | setAllowance (tag : Byte) (body : Body Nat)
  | bayService (tag : Byte) (body : Body BayService)
  | releaseBay (tag : Byte) (body : Body Nat)
  | assignBay (tag : Byte) (body : Body AssignBay)
  | cancelVisit (tag : Byte) (body : Body Nat)
  | admitOverride (tag : Byte) (body : Body Nat)
  | settleAccount (tag : Byte) (body : Body SettleAccount)
  | closePeriod (tag : Byte) (body : Body Unit)
  | trimLoop (tag : Byte) (body : Body Unit)
  | discharge (tag : Byte) (body : Body Nat)
  | linkReset (tag : Byte) (body : Body Unit)
  | getStatus (tag : Byte) (body : Body Unit)
  | getVisit (tag : Byte) (body : Body GetVisit)
  | getQueue (tag : Byte) (body : Body Unit)
  | getBay (tag : Byte) (body : Body Nat)
  | getWater (tag : Byte) (body : Body Unit)
  | getAccount (tag : Byte) (body : Body Nat)
  | getReading (tag : Byte) (body : Body Nat)
  | snapLane (tag : Byte) (body : Body Nat)
  | takeCharges (tag : Byte) (body : Body Nat)
  | confirmCharges (tag : Byte) (body : Body Seq)
  | rewindCharges (tag : Byte) (body : Body Unit)
  /-- A frame whose kind is no request kind. -/
  | unknownKind (tag : Byte) (kind : Byte)
  /-- The line's bytes up to the last CRC byte of a frame. -/
  | frameReceived (bytes : List Byte)
  /-- The line's bytes before a gap of more than 50 ms. -/
  | interByteGap (bytes : List Byte)
  | lineBreak
  | frameSent
  | coldStart (levels : FieldLevels)
  | warmRestart (cause : RestartCause) (levels : FieldLevels)
  | treadleLevelChange (lane : Lane) (treadle : Treadle) (on : Bool)
  | debounceExpiry (lane : Lane) (treadle : Treadle)
  | stopBeamChange (lane : Lane) (active : Bool)
  | clearBeamChange (lane : Lane) (active : Bool)
  | keypadPress (lane : Lane) (key : Prog)
  | tagRead (lane : Lane) (number : TagNo)
  | stallExpiry (lane : Lane)
  | waitExpiry (lane : Lane)
  | entryBarrierPulseEnd (lane : Lane)
  | presenceSensorChange (bay : Bay) (sensor : Presence) (active : Bool)
  | exitButtonPress (bay : Bay)
  | callTimerExpiry (bay : Bay)
  | settleTimerExpiry (bay : Bay)
  | lossFilterExpiry (bay : Bay)
  | exitPulseExpiry (bay : Bay)
  | exitStallExpiry (bay : Bay)
  | sensorTimerExpiry (bay : Bay)
  | meterPulse (bay : Bay) (meter : Meter)
  | phaseTimeLimit (bay : Bay)
  | waitLimit (bay : Bay)
  | nozzleTimeout (bay : Bay)
  /-- The code the converter sampled. -/
  | conversionCompletion (code : BitVec 10)
  | backgroundPeriodDue (channel : Channel)
  | holdTimerExpiry
  | pumpStartLeadExpiry (supply : Supply)
  | grantTimeout (supply : Supply)
  | drawMaxCut (supply : Supply)
  | runOnExpiry (supply : Supply)
  | purgeTimerExpiry
  | purgeCompletion
  | windowEnd
  | slotEnd
  | reclaimPulse
  | dischargeValveClose
  | refillCompletion (bay : Bay)
  | persistTimerExpiry
  | deferralExpiry
  | writeCompletion
  /-- The sequence number of the entry that ages. -/
  | ageing (seq : Seq)
  | clockSecond
  /-- The line's bytes up to the length byte outside 2..242. -/
  | badLengthByte (bytes : List Byte)
deriving DecidableEq, Repr

end Sys2Proof
end

