-- ==== Sys2Proof/Decode.lean ====
section
/-!
DEFINITION. The decoders: of a table word (no row of the table gives bits, so none), and of a received frame, its kind,
tag and body, into the command of its request (R199, R200, R210, section 11.7). Widths and numberings that R210 leaves
to the reader are log 13's.
-/

namespace Sys2Proof

/-- No row of spec/opcode_table.json gives bits: no word spells a command. -/
def decodeTableWord (_nbits _w : Nat) : Option Instr := none

/-! ## Fields of a body -/

/-- The unsigned number of some bytes, the most significant first. -/
def unsignedOf (l : List Byte) : Nat := l.foldl (fun n b => 256 * n + b.toNat) 0

/-- The unsigned field of `k` bytes at an offset. -/
def fieldAt (l : List Byte) (off k : Nat) : Nat := unsignedOf ((l.drop off).take k)

/-- The two's-complement field of `k` bytes at an offset. -/
def signedAt (l : List Byte) (off k : Nat) : Int :=
  let n := fieldAt l off k
  if 2 * n < 256 ^ k then n else (n : Int) - (256 ^ k : Nat)

/-- A switch: 1 for ON, 0 for OFF. -/
def switchOf : Nat → Option Bool
  | 0 => some false
  | 1 => some true
  | _ => none

def statusOf : Nat → Option AccountStatus
  | 1 => some .active
  | 2 => some .blocked
  | _ => none

def roleOf : Nat → Option Role
  | 1 => some .powered
  | 2 => some .trailer
  | _ => none

def axleModeOf : Nat → Option AxleMode
  | 1 => some .overlap
  | 2 => some .spaced
  | _ => none

def leadModeOf : Nat → Option LeadMode
  | 1 => some .variable
  | 2 => some .fixed
  | _ => none

def phaseKindOf : Nat → Option PhaseKind
  | 1 => some .wet
  | 2 => some .dry
  | _ => none

def sweepModeOf : Nat → Option SweepMode
  | 1 => some .linear
  | 2 => some .hybrid
  | 3 => some .wrap
  | _ => none

def actionOf : Nat → Option FlagAction
  | 1 => some .note
  | 2 => some .zero
  | 3 => some .skip
  | 4 => some .abort
  | _ => none

/-- The service wanted: IN 1, OUT 2, in the order of R83's text (log 13). -/
def serviceOf : Nat → Option ServiceWanted
  | 1 => some .inService
  | 2 => some .outOfService
  | _ => none

/-- The modes in the order of the table of section 9.5. -/
def modeOf : Nat → Option DepotMode
  | 1 => some .opened
  | 2 => some .hold
  | 3 => some .closed
  | 4 => some .drain
  | 5 => some .refill
  | _ => none

/-- A body of one length: its fields, or a wrong length (R200). -/
def ofLength {α : Type} (k : Nat) (body : List Byte) (f : α) : Body α :=
  if body.length = k then .fields f else .wrongLength

/-! ## Bodies -/

def putClassOf (l : List Byte) : PutClass := ⟨fieldAt l 0 1, fieldAt l 1 1, fieldAt l 2 1, fieldAt l 3 2⟩

def putAccountOf (l : List Byte) : PutAccount :=
  ⟨fieldAt l 0 2, statusOf (fieldAt l 2 1), fieldAt l 3 1, fieldAt l 4 1, fieldAt l 5 4⟩

def putTagOf (l : List Byte) : PutTag := ⟨fieldAt l 0 5, fieldAt l 5 2, roleOf (fieldAt l 7 1), fieldAt l 8 1⟩

def tierAt (l : List Byte) (off : Nat) : Tier := ⟨fieldAt l off 2, fieldAt l (off + 2) 1⟩

/-- The set of allowed programmes as two bytes, bit 0 programme 1. -/
def allowedOf (n : Nat) : Twelve Bool :=
  ⟨n.testBit 0, n.testBit 1, n.testBit 2, n.testBit 3, n.testBit 4, n.testBit 5, n.testBit 6, n.testBit 7,
    n.testBit 8, n.testBit 9, n.testBit 10, n.testBit 11⟩

def putTariffOf (l : List Byte) : PutTariff where
  number := fieldAt l 0 1
  prices := ⟨fieldAt l 1 3, fieldAt l 4 3, fieldAt l 7 3, fieldAt l 10 3, fieldAt l 13 3, fieldAt l 16 3,
    fieldAt l 19 3, fieldAt l 22 3, fieldAt l 25 3, fieldAt l 28 3, fieldAt l 31 3, fieldAt l 34 3⟩
  allowed := allowedOf (fieldAt l 37 2)
  strayBits := decide (4096 ≤ fieldAt l 37 2)
  axleRate := fieldAt l 39 3
  freshRate := fieldAt l 42 3
  tier1 := tierAt l 45
  tier2 := tierAt l 48
  tier3 := tierAt l 51

/-- A phase record of 25 bytes (R12). -/
def phaseOf (l : List Byte) : PhaseBody where
  kind := phaseKindOf (fieldAt l 0 1)
  volume := fieldAt l 1 2
  timeLimit := fieldAt l 3 2
  condLimit := fieldAt l 5 2
  turbLimit := fieldAt l 7 2
  cap := fieldAt l 9 2
  relax := fieldAt l 11 1
  weight := fieldAt l 12 1
  nozzleDelay := fieldAt l 13 2
  nozzleOn := fieldAt l 15 1
  nozzleFrame := fieldAt l 16 1
  framesPerSegment := fieldAt l 17 1
  sweepMode := sweepModeOf (fieldAt l 18 1)
  sweepGroup := fieldAt l 19 1
  startSegment := fieldAt l 20 1
  onStale := actionOf (fieldAt l 21 1)
  onClamp := actionOf (fieldAt l 22 1)
  onFresh := actionOf (fieldAt l 23 1)
  onFilter := actionOf (fieldAt l 24 1)

/-- `n` phase records in order. -/
def phasesOf (n : Nat) (l : List Byte) : List PhaseBody :=
  match n with
  | 0 => []
  | n + 1 => phaseOf (l.take 25) :: phasesOf n (l.drop 25)

def putProgrammeOf (l : List Byte) : Body PutProgramme :=
  if 4 ≤ l.length then
    ofLength (4 + 25 * fieldAt l 3 1) l ⟨fieldAt l 0 1, fieldAt l 1 2, phasesOf (fieldAt l 3 1) (l.drop 4)⟩
  else .wrongLength

/-- SET_DEPOT: 197 bytes in the order of R15; the calibrations as lo and hi of CH0, lo and hi of CH1 and so on (log 13). -/
def setDepotOf (l : List Byte) : SetDepot where
  casualAdmission := switchOf (fieldAt l 0 1)
  casualClass := fieldAt l 1 1
  axleMode := ⟨axleModeOf (fieldAt l 2 1), axleModeOf (fieldAt l 3 1)⟩
  debounce := fieldAt l 4 1
  laneStall := fieldAt l 5 4
  maxSegments := ⟨fieldAt l 9 1, fieldAt l 10 1, fieldAt l 11 1, fieldAt l 12 1, fieldAt l 13 1, fieldAt l 14 1⟩
  lineVolume := ⟨fieldAt l 15 2, fieldAt l 17 2, fieldAt l 19 2, fieldAt l 21 2, fieldAt l 23 2, fieldAt l 25 2⟩
  callTimeout := fieldAt l 27 4
  seatingSettle := fieldAt l 31 4
  grantTimeout := fieldAt l 35 4
  startLead := fieldAt l 39 4
  runOn := fieldAt l 43 4
  filterInterval := fieldAt l 47 4
  purgeDuration := fieldAt l 51 4
  purgeVolume := fieldAt l 55 2
  cartMask :=
    let n := fieldAt l 57 1
    ⟨n.testBit 0, n.testBit 1, n.testBit 2, n.testBit 3⟩
  strayCarts := decide (16 ≤ fieldAt l 57 1)
  leadMode := leadModeOf (fieldAt l 58 1)
  pitCapacity := fieldAt l 59 2
  tankCapacity := fieldAt l 61 2
  reserveFloor := fieldAt l 63 2
  lowMark := fieldAt l 65 2
  highMark := fieldAt l 67 2
  carryOff := fieldAt l 69 1
  allowanceThreshold := fieldAt l 70 3
  autoFrost := switchOf (fieldAt l 73 1)
  holdThreshold := signedAt l 74 1
  drainThreshold := signedAt l 75 1
  persistTime := fieldAt l 76 4
  deferralMax := fieldAt l 80 4
  chargeHold := fieldAt l 84 1
  probeSettle := ⟨fieldAt l 85 4, fieldAt l 89 4, fieldAt l 93 4, fieldAt l 97 4, fieldAt l 101 4, fieldAt l 105 4,
    fieldAt l 109 4, fieldAt l 113 4⟩
  probePeriod := ⟨fieldAt l 117 4, fieldAt l 121 4, fieldAt l 125 4, fieldAt l 129 4, fieldAt l 133 4,
    fieldAt l 137 4, fieldAt l 141 4, fieldAt l 145 4⟩
  calLo := ⟨signedAt l 149 3, signedAt l 155 3, signedAt l 161 3, signedAt l 167 3, signedAt l 173 3, signedAt l 179 3,
    signedAt l 185 3, signedAt l 191 3⟩
  calHi := ⟨signedAt l 152 3, signedAt l 158 3, signedAt l 164 3, signedAt l 170 3, signedAt l 176 3, signedAt l 182 3,
    signedAt l 188 3, signedAt l 194 3⟩

/-- `n` tag numbers of 5 bytes. -/
def tagsOf (n : Nat) (l : List Byte) : List TagNo :=
  match n with
  | 0 => []
  | n + 1 => fieldAt l 0 5 :: tagsOf n (l.drop 5)

def assignBayOf (l : List Byte) : Body AssignBay :=
  if 6 ≤ l.length then
    ofLength (6 + 5 * fieldAt l 5 1) l
      ⟨fieldAt l 0 1, fieldAt l 1 2, fieldAt l 3 1, fieldAt l 4 1, tagsOf (fieldAt l 5 1) (l.drop 6)⟩
  else .wrongLength

/-- The command of a received frame (section 11.7): a request of its kind, or a frame of unknown kind. -/
def decodeFrame (kind tag : Byte) (l : List Byte) : Instr :=
  match kind.toNat with
  | 0x01 => .putClass tag (ofLength 5 l (putClassOf l))
  | 0x02 => .putAccount tag (ofLength 9 l (putAccountOf l))
  | 0x03 => .dropAccount tag (ofLength 2 l (fieldAt l 0 2))
  | 0x04 => .putTag tag (ofLength 9 l (putTagOf l))
  | 0x05 => .dropTag tag (ofLength 5 l (fieldAt l 0 5))
  | 0x06 => .putTariff tag (ofLength 54 l (putTariffOf l))
  | 0x07 => .putProgramme tag (putProgrammeOf l)
  | 0x08 => .setDepot tag (ofLength 197 l (setDepotOf l))
  | 0x10 => .setMode tag (ofLength 2 l ⟨modeOf (fieldAt l 0 1), decide (fieldAt l 1 1 ≠ 0)⟩)
  | 0x11 => .setClock tag (ofLength 5 l ⟨fieldAt l 0 2, fieldAt l 2 3⟩)
  | 0x12 => .setAllowance tag (ofLength 3 l (fieldAt l 0 3))
  | 0x13 => .bayService tag (ofLength 2 l ⟨fieldAt l 0 1, serviceOf (fieldAt l 1 1)⟩)
  | 0x14 => .releaseBay tag (ofLength 1 l (fieldAt l 0 1))
  | 0x15 => .assignBay tag (assignBayOf l)
  | 0x16 => .cancelVisit tag (ofLength 2 l (fieldAt l 0 2))
  | 0x17 => .admitOverride tag (ofLength 1 l (fieldAt l 0 1))
  | 0x18 => .settleAccount tag (ofLength 6 l ⟨fieldAt l 0 2, fieldAt l 2 4⟩)
  | 0x19 => .closePeriod tag (ofLength 0 l ())
  | 0x1A => .trimLoop tag (ofLength 0 l ())
  | 0x1B => .discharge tag (ofLength 2 l (fieldAt l 0 2))
  | 0x1C => .linkReset tag (ofLength 0 l ())
  | 0x20 => .getStatus tag (ofLength 0 l ())
  | 0x21 => .getVisit tag (ofLength 3 l ⟨fieldAt l 0 2, fieldAt l 2 1⟩)
  | 0x22 => .getQueue tag (ofLength 0 l ())
  | 0x23 => .getBay tag (ofLength 1 l (fieldAt l 0 1))
  | 0x24 => .getWater tag (ofLength 0 l ())
  | 0x25 => .getAccount tag (ofLength 2 l (fieldAt l 0 2))
  | 0x26 => .getReading tag (ofLength 1 l (fieldAt l 0 1))
  | 0x27 => .snapLane tag (ofLength 1 l (fieldAt l 0 1))
  | 0x30 => .takeCharges tag (ofLength 1 l (fieldAt l 0 1))
  | 0x31 => .confirmCharges tag (ofLength 4 l (BitVec.ofNat 32 (fieldAt l 0 4)))
  | 0x32 => .rewindCharges tag (ofLength 0 l ())
  | _ => .unknownKind tag kind

end Sys2Proof
end

