-- ==== Sys2Proof/Config.lean ====
section
/-!
DEFINITION. The free values: what the manual leaves open and the part goes on. Each is an opaque constant, so nothing
can be proved of its value; a statement that mentions one holds whatever it is.
-/

namespace Sys2Proof.Config

/-- Whether a time that is not a whole number of seconds is given as the next whole second in a 'seconds left' or
'seconds drawn' field of a reply or notice: the manual names no rounding there (log 9). Applied to the milliseconds. -/
opaque secondsRoundUp : Nat → Bool

/-- Whether a running or paused time, or the time left of the nozzle generator, that is not a whole number of tenths is
given as the next whole tenth: the manual names no rounding (log 10). Applied to the milliseconds. -/
opaque tenthsRoundUp : Nat → Bool

/-- The level of a bay's exit button when GET_BAY reads it (R86): no row of the table tells the button's release, so
the level is free at each reading (log 8). Applied to the bay's number and the free-value counter. -/
opaque exitButtonLevel : Nat → Nat → Bool

/-- The kind byte of a BUSY answer to a frame whose kind is no request kind: R199 and R200 do not give it (log 11).
Applied to the frame's kind. -/
opaque busyKindOfUnknown : Byte → Byte

/-- Which of the nine bay states a BAY_STATE notice names as the state left when a warm restart, which loses the bay's
state, brings the entry (log 12). Applied to the bay's number and the free-value counter; 0..8 in table order. -/
opaque stateLeftAtRestart : Nat → Nat → Fin 9

end Sys2Proof.Config
end

