-- ==== Sys2Proof/Machine/State.lean ====
section
/-!
DEFINITION. The state of the part, block by block (spec/00 'Block overview'), the messages it sends, the ways a command
can stop, and the state after a cold start.
-/

namespace Sys2Proof.Machine

open Sys2Proof

/-! ## Keyed tables -/

/-- A table keyed by a number: pairs in one canonical form, keys strictly rising. -/
abbrev Table (α : Type) := List (Nat × α)

/-! ## Depot Tables (chapter 1) -/

/-- A class's figures (R2). -/
structure ClassRecord where
  length : Nat
  axles : Nat
  factor : Nat
deriving DecidableEq, Repr

/-- An account's entry but its number (R4). -/
structure Account where
  status : AccountStatus
  tariff : Trf
  programme : Prog
  credit : Nat
  balance : Nat
  balSat : Bool
  periodVisits : Nat
deriving DecidableEq, Repr

/-- A tag's entry but its number (R8). -/
structure TagRecord where
  account : Nat
  role : Role
  cls : Cls
deriving DecidableEq, Repr

/-- A defined tariff (R10). -/
structure Tariff where
  prices : Twelve Nat
  allowed : Twelve Bool
  axleRate : Nat
  freshRate : Nat
  tier1 : Tier
  tier2 : Tier
  tier3 : Tier
deriving DecidableEq, Repr

/-- A phase record of a programme (R12). -/
structure PhaseRecord where
  kind : PhaseKind
  volume : Nat
  timeLimit : Nat
  condLimit : Nat
  turbLimit : Nat
  cap : Nat
  relax : Nat
  weight : Nat
  nozzleDelay : Nat
  nozzleOn : Nat
  nozzleFrame : Nat
  framesPerSegment : Nat
  sweepMode : SweepMode
  sweepGroup : Nat
  startSegment : Nat
  onStale : FlagAction
  onClamp : FlagAction
  onFresh : FlagAction
  onFilter : FlagAction
deriving DecidableEq, Repr

/-- A defined programme (R12). -/
structure Programme where
  includedFresh : Nat
  phases : List PhaseRecord
deriving DecidableEq, Repr

/-- Depot Settings (R15). Durations in seconds, debounce in ms, charge hold in hours. -/
structure Settings where
  casualAdmission : Bool
  casualClass : Cls
  axleMode : Pair AxleMode
  debounce : Nat
  laneStall : Nat
  maxSegments : Six Nat
  lineVolume : Six Nat
  callTimeout : Nat
  seatingSettle : Nat
  grantTimeout : Nat
  startLead : Nat
  runOn : Nat
  filterInterval : Nat
  purgeDuration : Nat
  purgeVolume : Nat
  cartMask : Four Bool
  leadMode : LeadMode
  pitCapacity : Nat
  tankCapacity : Nat
  reserveFloor : Nat
  lowMark : Nat
  highMark : Nat
  carryOff : Nat
  dailyAllowance : Nat
  allowanceThreshold : Nat
  autoFrost : Bool
  holdThreshold : Int
  drainThreshold : Int
  persistTime : Nat
  deferralMax : Nat
  chargeHold : Nat
  probeSettle : Eight Nat
  probePeriod : Eight Nat
  calLo : Eight Int
  calHi : Eight Int
deriving DecidableEq, Repr

/-- The six tables. -/
structure DepotTables where
  classes : Eight ClassRecord
  accounts : Table Account
  tags : Table TagRecord
  tariffs : Eight (Option Tariff)
  programmes : Twelve (Option Programme)
  settings : Settings
deriving DecidableEq, Repr

/-! ## Gate Unit (chapter 2) -/

/-- Why a lane is REFUSED (section 2.1). -/
inductive RefuseReason
  | closed | duplicate | blocked | unknown | noBay | full
deriving DecidableEq, Repr

/-- A lane's state with what it holds in that state (section 2.1). -/
inductive LaneState
  | idle
  | occupied
  | waiting (since : Nat) (override : Bool)
  | admitted (visit : Nat) (clearSeen : Bool)
  | refused (reason : RefuseReason)
deriving DecidableEq, Repr

/-- The direction of a passage. -/
inductive Direction
  | forward | reverse
deriving DecidableEq, Repr

/-- The stage of a passage: the treadles that are on, or the gap of SPACED mode (R23, R24). -/
inductive PassageStage
  | onA | onAB | onB | gap
deriving DecidableEq, Repr

/-- The axle counter's state (section 2.3). -/
inductive CounterState
  | none
  | passage (stage : PassageStage) (dir : Direction)
deriving DecidableEq, Repr

/-- One treadle: raw level, taken level, and the end of the debounce window being timed (R21). -/
structure TreadleState where
  raw : Bool
  taken : Bool
  window : Option Nat
deriving DecidableEq, Repr

/-- A lane's record (section 2.1). Timers are the ms at which they expire. -/
structure LaneRecord where
  state : LaneState
  treadleA : TreadleState
  treadleB : TreadleState
  counter : CounterState
  count : Nat
  tags : List TagNo
  key : Option Prog
  axleSat : Bool
  reverse : Bool
  tagOver : Bool
  stall : Option Nat
  wait : Option Nat
  barrierPulse : Option Nat
  stopBeam : Bool
  clearBeam : Bool
deriving DecidableEq, Repr

/-! ## Visits (chapter 3) -/

/-- Where a visit was created. -/
inductive VisitLane
  | lane (l : Lane)
  | host
deriving DecidableEq, Repr

/-- The states of a visit in the table (R45). -/
inductive VisitState
  | queued | called | inBay | interrupted | finished
deriving DecidableEq, Repr

/-- How a wash ended (R45), in the order of section 11.7. -/
inductive EndCause
  | complete | exit | abandoned | interrupted | mode | fault
deriving DecidableEq, Repr

/-- How a phase ended (R99). -/
inductive PhaseCause
  | complete | shortTime | shortPlan | skipped | cutExit | cutMode | abandoned | waitLimit | fault | interrupted
deriving DecidableEq, Repr

/-- The phase flags, the visit's quality flags (section 5.1). -/
structure PhaseFlags where
  stale : Bool
  clamp : Bool
  fresh : Bool
  filter : Bool
  relax : Bool
  lowRec : Bool
  short : Bool
deriving DecidableEq, Repr

/-- A visit's other flags (R45). -/
structure OtherFlags where
  axleAssumed : Bool
  tagOver : Bool
  mixed : Bool
  axleSat : Bool
  reverse : Bool
deriving DecidableEq, Repr

/-- A reading as an answer hands it to a phase: value with STALE and CLAMP marks (R114, R116). -/
structure UsedReading where
  value : Int
  stale : Bool
  clamp : Bool
deriving DecidableEq, Repr

/-- C_r, T_r, C_f, T_f. -/
structure ReadingsUsed where
  cr : UsedReading
  tr : UsedReading
  cf : UsedReading
  tf : UsedReading
deriving DecidableEq, Repr

/-- The figures of a plan: r in per-mille, V', planned fresh, planned recycled (R131). -/
structure PlanFigures where
  r : Nat
  volume : Nat
  fresh : Nat
  recycled : Nat
deriving DecidableEq, Repr

/-- A phase result (R99). Times in tenths of a second, the time limit in seconds. -/
structure PhaseResult where
  number : Nat
  kind : PhaseKind
  volume : Nat
  weight : Nat
  timeLimit : Nat
  cause : PhaseCause
  figures : Option PlanFigures
  fresh : Nat
  recycled : Nat
  carryOff : Nat
  readings : Option ReadingsUsed
  flags : PhaseFlags
  running : Nat
  paused : Nat
  timeouts : Nat
  covered : Nat
deriving DecidableEq, Repr

/-- A visit's record but its number (R45). -/
structure Visit where
  lane : VisitLane
  day : Nat
  time : Nat
  tags : List TagNo
  account : Option Nat
  cls : Cls
  axles : Option Nat
  programme : Prog
  permit : Bool
  noShow : Nat
  state : VisitState
  bay : Option Bay
  endCause : Option EndCause
  results : List PhaseResult
  quality : PhaseFlags
  other : OtherFlags
  posted : Option Seq
deriving DecidableEq, Repr

/-- Visit Table, Wash Queue, Called List and last issued number. -/
structure VisitQueue where
  visits : Table Visit
  queue : List Nat
  called : List Nat
  lastNumber : Nat
deriving DecidableEq, Repr

/-! ## Bay Controller (chapter 4) -/

/-- The nine bay states. -/
inductive BayState
  | closed | refilling | empty | called | seating | washing | finishing | releasing | stray
deriving DecidableEq, Repr

/-- A bay's service flag. -/
inductive ServiceFlag
  | inService | outPending | outOfService
deriving DecidableEq, Repr

/-- A bay's last fault (R84). -/
inductive BayFault
  | none | valve | sensor | exitStall
deriving DecidableEq, Repr

/-- A bay's record (section 4.1) with its lamp and sensor levels. -/
structure BayRecord where
  state : BayState
  service : ServiceFlag
  lineFilled : Bool
  held : Option Nat
  called : Option Nat
  releaseHold : Bool
  lastFault : BayFault
  callTimer : Option Nat
  settleTimer : Option Nat
  lossFilter : Option Nat
  exitPulse : Option Nat
  exitStall : Option Nat
  sensorTimer : Option Nat
  lamp : Bool
  wheelStop : Bool
  rearBeam : Bool
deriving DecidableEq, Repr

/-! ## Phase Runner (chapter 5) -/

/-- The stages of a running phase; with no phase the stage is IDLE. -/
inductive Stage
  | reading | paused | running
deriving DecidableEq, Repr

/-- The states of the nozzle pulse-frame generator (R102). -/
inductive GenState
  | idle | delay | on | off
deriving DecidableEq, Repr

/-- The generator: its state, the frames done in the segment, the end of the present state while it runs, and the ms
kept while it is frozen. -/
structure Generator where
  state : GenState
  frames : Nat
  due : Option Nat
  kept : Nat
deriving DecidableEq, Repr

/-- The phase plan of a bay whose stage is not IDLE (section 5.1). `runMs` and `pauseMs` hold the time up to `since`,
the ms at which the present stage was entered. -/
structure PhaseRun where
  visit : Nat
  number : Nat
  record : PhaseRecord
  length : Nat
  stage : Stage
  readings : Option ReadingsUsed
  figures : Option PlanFigures
  reserved : Nat
  flags : PhaseFlags
  fresh : Nat
  recycled : Nat
  timeouts : Nat
  runMs : Nat
  pauseMs : Nat
  since : Nat
  covered : List Nat
  grant : Option Supply
  requested : Bool
  freshOpen : Bool
  recycledOpen : Bool
  gen : Generator
  sweepPos : Nat
deriving DecidableEq, Repr

/-- A bay's phase plan, if a phase runs, and its stray pulses. -/
structure BayRunner where
  plan : Option PhaseRun
  stray : Nat
deriving DecidableEq, Repr

/-! ## Quality Sampler (chapter 6) -/

/-- A channel's reading (R108). `tempUsed` and `compensated` are CH0's. -/
structure Reading where
  value : Int
  code : BitVec 10
  takenAt : Option Nat
  clamp : Bool
  valid : Bool
  tempUsed : Int
  compensated : Bool
deriving DecidableEq, Repr

/-- The converter (R111). `choosing` stands inside one event only, between a completion and the choice that ends it. -/
inductive Converter
  | idle
  | converting (ch : Channel) (until_ : Nat)
  | choosing
deriving DecidableEq, Repr

/-- A bay's demand: for each of CH0..CH4 the copy that satisfied it, or none while it waits (R113). -/
structure Demand where
  c0 : Option Reading
  c1 : Option Reading
  c2 : Option Reading
  c3 : Option Reading
  c4 : Option Reading
deriving DecidableEq, Repr

structure Sampler where
  readings : Eight Reading
  converter : Converter
  demands : Six (Option Demand)
  ch1Held : Bool
  holdTimer : Option Nat
deriving DecidableEq, Repr

/-! ## Blend Unit (chapter 7) -/

/-- The fresh allowance account but the daily allowance, which is in Depot Settings (R132). -/
structure Blend where
  usedToday : Nat
  reservations : Six (Option Nat)
deriving DecidableEq, Repr

/-! ## Supply Arbiter (chapter 8) -/

/-- A supply channel's state (R140). -/
inductive SupplyState
  | idle
  | starting (bay : Bay) (until_ : Nat)
  | granted (bay : Bay) (until_ : Nat)
  | drawing (bay : Bay) (from_ : Nat) (cutAt : Nat)
  | runOn (until_ : Nat)
deriving DecidableEq, Repr

/-- A purge in progress. -/
structure Purge where
  cart : Cart
  until_ : Nat
deriving DecidableEq, Repr

/-- The stages of the fixed-lead cycle (R153). -/
inductive CycleStage
  | window | slot
deriving DecidableEq, Repr

structure Arbiter where
  channels : Pair SupplyState
  requests : Six Bool
  priority : List Bay
  debt : Nat
  purgeTimer : Option Nat
  purge : Option Purge
  pointer : Cart
  cycle : CycleStage
  cycleEnd : Option Nat   -- none while the cycle does not run (VARIABLE)
deriving DecidableEq, Repr

/-! ## Loop Account and Mode Control (chapter 9) -/

/-- Why the mode is HOLD. -/
inductive HoldOrigin
  | host | frost | drain
deriving DecidableEq, Repr

/-- The cause in a MODE notice (R176). -/
inductive ModeCause
  | host | frost | refillDone | deferral
deriving DecidableEq, Repr

/-- The source of a refill (R167). -/
inductive RefillSource
  | recycled | well
deriving DecidableEq, Repr

/-- A refill in flight. -/
structure Refill where
  source : RefillSource
  volume : Nat
  until_ : Nat
deriving DecidableEq, Repr

/-- The book, the mode and the loop's outputs. V_lines is the sum of `heldLine`, V_bays the sum of the running phases'
delivered water. -/
structure Loop where
  vSet : Int
  vRec : Int
  heldLine : Six Nat
  v0 : Int
  freshIn : Nat
  discharged : Nat
  carried : Nat
  drained : Nat
  mode : DepotMode
  holdOrigin : Option HoldOrigin
  drainPending : Option ModeCause
  deferral : Option Nat
  persist : Option Nat
  reclaim : Bool
  refills : Six (Option Refill)
  discharge : Option Nat
  drainValve : Six Bool
  strayReclaim : Nat
deriving DecidableEq, Repr

/-! ## Charge Unit (chapter 10) -/

/-- A computed price (R181 to R183). -/
structure Price where
  axlesUsed : Nat
  fresh : Nat
  recycled : Nat
  base : Nat
  axleCharge : Nat
  waterCharge : Nat
  credit : Nat
  discount : Nat
  net : Nat
deriving DecidableEq, Repr

/-- A VISIT entry's fields but sequence number and aged mark (R184). -/
structure VisitEntry where
  visit : Nat
  account : Option Nat
  tags : List TagNo
  cls : Cls
  programme : Prog
  phasesRun : Nat
  phasesCompleted : Nat
  price : Price
  quality : PhaseFlags
  other : OtherFlags
  endCause : Option EndCause
  day : Nat
  time : Nat
deriving DecidableEq, Repr

/-- The counts that a charge day gathers (R191). -/
structure DayCounts where
  visits : Nat
  net : Nat
  fresh : Nat
  recycled : Nat
  discharged : Nat
  purges : Nat
deriving DecidableEq, Repr

/-- A day summary (R192). -/
structure Summary where
  first : Nat
  last : Nat
  counts : DayCounts
deriving DecidableEq, Repr

/-- What an entry holds. -/
inductive EntryBody
  | visit (e : VisitEntry)
  | day (s : Summary) (day : Nat) (time : Nat)
deriving DecidableEq, Repr

/-- An entry of the Invoice Ring. Its held time is `heldMs` up to the ms `heldSince` and runs on from there (R190). -/
structure Entry where
  seq : Seq
  body : EntryBody
  aged : Bool
  heldMs : Nat
  heldSince : Nat
deriving DecidableEq, Repr

/-- An item of the posting list (R180). -/
inductive PostItem
  | visit (number : Nat)
  | summary (s : Summary)
deriving DecidableEq, Repr

/-- The write in progress, always of the posting list's head: for a visit with its price. -/
inductive Writing
  | visit (p : Price)
  | summary
deriving DecidableEq, Repr

/-- The Invoice Ring: its head slot and its entries from the head; the tail slot is `headSlot` plus their number. -/
structure Ring where
  headSlot : Nat
  entries : List Entry
deriving DecidableEq, Repr

structure Charges where
  ring : Ring
  nextSeq : Seq
  reservations : Nat
  firstDay : Nat
  totals : DayCounts
  pendingSummary : Option Summary
  posting : List PostItem
  writing : Option Writing
deriving DecidableEq, Repr

/-! ## Depot Clock (chapter 11) -/

/-- Day number, time of day, and the ms at which the running second began. -/
structure Clock where
  day : Nat
  time : Nat
  secondBase : Nat
deriving DecidableEq, Repr

/-! ## Messages -/

/-- The result codes, numbered from 0 (section 11.7). -/
inductive ResultCode
  | ok | busy | unknownKind | badLength | range | state | notFound | full | duplicate
deriving DecidableEq, Repr

/-- Which start a START notice reports and why (R205). -/
inductive StartReport
  | cold
  | warm (cause : RestartCause)
  | linkReset
  | lineBreak
deriving DecidableEq, Repr

/-- The kind of the last cold or warm start. -/
inductive StartKind
  | cold | warm
deriving DecidableEq, Repr

/-- Why a visit was cancelled (R56). -/
inductive CancelCause
  | host | noShow | mode | restart
deriving DecidableEq, Repr

/-- The outcome in a QUALITY notice (R136). -/
inductive PlanOutcome
  | plan | skipped | aborted
deriving DecidableEq, Repr

/-- Why the pit overflowed (R163). -/
inductive OverflowCause
  | phase (bay : Bay)
  | purge
deriving DecidableEq, Repr

/-- The outcome of an admission decision. -/
inductive Outcome
  | admitted (visit : Nat)
  | waiting
  | refused (reason : RefuseReason)
deriving DecidableEq, Repr

/-- The release answer (R185). -/
inductive ReleaseAnswer
  | free | permit
deriving DecidableEq, Repr

structure StartNotice where
  report : StartReport
  interrupted : Nat
  cancelled : Nat
  strays : Nat
  requestsDiscarded : Nat
  noticesDiscarded : Nat
  mode : DepotMode
  drainPending : Bool
  day : Nat
  time : Nat
  headSeq : Seq
  nextSeq : Seq
  entries : Nat
  reservations : Nat
  pendingSummary : Bool
deriving DecidableEq, Repr

structure AdmittedNotice where
  lane : Lane
  visit : Nat
  account : Option Nat
  cls : Cls
  programme : Prog
  permit : Bool
  tagCount : Nat
  tagOver : Bool
  mixed : Bool
  override : Bool
deriving DecidableEq, Repr

structure RefusedNotice where
  lane : Lane
  reason : RefuseReason
  tags : List TagNo
  account : Option Nat
  cls : Cls
  override : Bool
deriving DecidableEq, Repr

structure LaneStallNotice where
  lane : Lane
  leftRefused : Bool
  count : Nat
  tagCount : Nat
deriving DecidableEq, Repr

structure CalledNotice where
  visit : Nat
  bay : Bay
  cls : Cls
  noShow : Nat
deriving DecidableEq, Repr

structure CancelledNotice where
  visit : Nat
  lane : VisitLane
  account : Option Nat
  left : VisitState
  bay : Option Bay
  cause : CancelCause
deriving DecidableEq, Repr

structure BayStateNotice where
  bay : Bay
  entered : BayState
  left : BayState
  held : Option Nat
  released : Option Nat
  service : ServiceFlag
  lineFilled : Bool
  lastFault : BayFault
deriving DecidableEq, Repr

structure VisitDoneNotice where
  visit : Nat
  bay : Option Bay
  endCause : Option EndCause
  results : Nat
  completed : Nat
  quality : PhaseFlags
  other : OtherFlags
deriving DecidableEq, Repr

/-- CHARGE_POSTED for a VISIT or a DAY entry (R184, R192). -/
inductive ChargePosted
  | visit (seq : Seq) (visit : Nat) (bay : Option Bay) (account : Option Nat) (net : Nat) (answer : ReleaseAnswer)
      (places : Nat)
  | day (seq : Seq) (first : Nat) (last : Nat) (places : Nat)
deriving DecidableEq, Repr

structure OverdueNotice where
  seq : Seq
  isVisit : Bool
  visit : Option Nat
  account : Option Nat
  day : Nat
  time : Nat
  aged : Nat
deriving DecidableEq, Repr

structure DayClosedNotice where
  ended : Nat
  first : Nat
  last : Nat
  joined : Bool
  places : Nat
deriving DecidableEq, Repr

structure PurgeNotice where
  cart : Cart
  moved : Nat
  debt : Nat
  next : Cart
  leadMode : LeadMode
  vRec : Int
  vSet : Int
deriving DecidableEq, Repr

structure OverflowNotice where
  litres : Nat
  cause : OverflowCause
  vSet : Int
  capacity : Nat
deriving DecidableEq, Repr

structure ModeNotice where
  entered : DepotMode
  left : DepotMode
  cause : ModeCause
  holdOrigin : Option HoldOrigin
  drainPending : Bool
  deferralLeft : Option Nat
  ch5Value : Int
  ch5Clamp : Bool
  litresDrained : Option Nat
  phasesCut : Option Nat
deriving DecidableEq, Repr

structure QualityNotice where
  bay : Bay
  visit : Nat
  phase : Nat
  flags : PhaseFlags
  action : FlagAction
  outcome : PlanOutcome
  readings : ReadingsUsed
  condLimit : Nat
  turbLimit : Nat
  avail : Nat
  allowance : Nat
  debt : Nat
  figures : Option PlanFigures
deriving DecidableEq, Repr

/-- The notices, in the order of their kinds from 0x40 (section 11.7). -/
inductive Notice
  | start (n : StartNotice)
  | admitted (n : AdmittedNotice)
  | refused (n : RefusedNotice)
  | laneStall (n : LaneStallNotice)
  | called (n : CalledNotice)
  | cancelled (n : CancelledNotice)
  | bayState (n : BayStateNotice)
  | exitStall (bay : Bay) (released : Option Nat)
  | stray (bay : Bay) (wheelStop : Bool) (rearBeam : Bool) (restart : Bool)
  | visitDone (n : VisitDoneNotice)
  | chargePosted (n : ChargePosted)
  | collectOverdue (n : OverdueNotice)
  | dayClosed (n : DayClosedNotice)
  | purge (n : PurgeNotice)
  | overflow (n : OverflowNotice)
  | mode (n : ModeNotice)
  | quality (n : QualityNotice)
deriving DecidableEq, Repr

/-- GET_STATUS (R202). -/
structure StatusReply where
  noticesLost : Bool
  drainPending : Bool
  pendingSummary : Bool
  purgeInProgress : Bool
  lastCold : Bool
  mode : DepotMode
  holdOrigin : Option HoldOrigin
  day : Nat
  time : Nat
  secondsSinceStart : Nat
  crcErrors : Nat
  framingErrors : Nat
  busyAnswers : Nat
  dropped : Nat
  noticesWaiting : Nat
  lanes : Pair LaneState
  bays : Six BayState
  visits : Nat
  queued : Nat
  called : Nat
  entries : Nat
  reservations : Nat
  aged : Nat
  nextSeq : Seq
  debt : Nat
  remaining : Nat
  vRec : Int
deriving DecidableEq, Repr

/-- GET_VISIT (R61): the record, the number of results it holds, the results sent, and the place in its list. -/
structure VisitReply where
  number : Nat
  record : Visit
  resultsHeld : Nat
  sent : List PhaseResult
  place : Option Nat
deriving DecidableEq, Repr

structure QueuedItem where
  visit : Nat
  cls : Cls
  lane : VisitLane
  programme : Prog
  noShow : Nat
deriving DecidableEq, Repr

structure CalledItem where
  visit : Nat
  bay : Option Bay
  noShow : Nat
deriving DecidableEq, Repr

/-- GET_QUEUE (R62). -/
structure QueueReply where
  visits : Nat
  queued : List QueuedItem
  called : List CalledItem
deriving DecidableEq, Repr

/-- The running phase's fields in GET_BAY (R106). -/
structure PhaseView where
  number : Nat
  kind : PhaseKind
  stage : Stage
  volume : Nat
  timeLimit : Nat
  figures : Option PlanFigures
  reserved : Nat
  fresh : Nat
  recycled : Nat
  flags : PhaseFlags
  grant : Option Supply
  requested : Bool
  timeouts : Nat
  running : Nat
  paused : Nat
  freshOpen : Bool
  recycledOpen : Bool
  genState : GenState
  genLeft : Nat
  segment : Nat
  covered : Nat
deriving DecidableEq, Repr

/-- GET_BAY (R86). -/
structure BayReply where
  bay : Bay
  state : BayState
  service : ServiceFlag
  lineFilled : Bool
  held : Option Nat
  called : Option Nat
  releaseHold : Bool
  lastFault : BayFault
  wheelStop : Bool
  rearBeam : Bool
  exitButton : Bool
  callLeft : Option Nat
  settleLeft : Option Nat
  lossLeft : Option Nat
  exitPulseLeft : Option Nat
  exitStallLeft : Option Nat
  sensorLeft : Option Nat
  lamp : Bool
  barrierOpen : Bool
  maxSegments : Nat
  lineVolume : Nat
  phase : Option PhaseView
  stray : Nat
deriving DecidableEq, Repr

/-- A supply channel in GET_WATER (R157). -/
structure SupplyView where
  state : SupplyState
  bay : Option Bay
  secondsLeft : Option Nat
  drawn : Option Nat
  cutTime : Option Nat
deriving DecidableEq, Repr

/-- A refill in GET_WATER. -/
structure RefillView where
  source : RefillSource
  secondsLeft : Nat
deriving DecidableEq, Repr

/-- GET_WATER (R176, R137, R157). -/
structure WaterReply where
  vSet : Int
  vRec : Int
  vLines : Nat
  vBays : Nat
  v0 : Int
  freshIn : Nat
  discharged : Nat
  carried : Nat
  drained : Nat
  leftSide : Int
  rightSide : Int
  heldLine : Six Nat
  refills : Six (Option RefillView)
  mode : DepotMode
  holdOrigin : Option HoldOrigin
  drainPending : Bool
  deferralLeft : Option Nat
  persistLeft : Option Nat
  reclaim : Bool
  strayReclaim : Nat
  dischargeOpen : Bool
  dischargeLeft : Option Nat
  ch6 : Reading
  ch7 : Reading
  avail : Nat
  daily : Nat
  usedToday : Nat
  outstanding : Nat
  reservationCount : Nat
  remaining : Nat
  threshold : Nat
  belowThreshold : Bool
  supply1 : SupplyView
  supply2 : SupplyView
  requestSet : List Bay
  priority : List Bay
  debt : Nat
  purgeTimerLeft : Option Nat
  spacing : Nat
  drawMax : Nat
  purgeCart : Option Cart
  purgeLeft : Option Nat
  pointer : Cart
  mask : Four Bool
  leadMode : LeadMode
  cycle : Option CycleStage
  cycleLeft : Option Nat
deriving DecidableEq, Repr

/-- GET_READING (R121). -/
structure ReadingReply where
  channel : Channel
  value : Int
  code : BitVec 10
  clamp : Bool
  valid : Bool
  ageSeconds : Option Nat
  stale : Bool
  tempUsed : Option Int
  compensated : Option Bool
  held : Option Bool
  holdLeft : Option Nat
  due : Bool
  waiting : Nat
  converting : Option Channel
  converterLeft : Option Nat
  settle : Nat
  period : Nat
  lo : Int
  hi : Int
deriving DecidableEq, Repr

/-- SNAP_LANE (R43). -/
structure LaneReply where
  lane : Lane
  state : LaneState
  reason : Option RefuseReason
  axleMode : AxleMode
  counter : CounterState
  count : Nat
  axleSat : Bool
  reverse : Bool
  tagOver : Bool
  tags : List TagNo
  key : Option Prog
  override : Bool
  admitted : Option Nat
  clearSeen : Option Bool
  secondsLeft : Option Nat
  takenA : Bool
  takenB : Bool
  stopBeam : Bool
  clearBeam : Bool
deriving DecidableEq, Repr

/-- An entry as TAKE_CHARGES hands it out. -/
structure EntryCopy where
  seq : Seq
  body : EntryBody
  aged : Bool
deriving DecidableEq, Repr

/-- TAKE_CHARGES (R187). -/
structure ChargesReply where
  entries : List EntryCopy
  places : Nat
  inRing : Nat
  aged : Nat
  pendingSummary : Bool
  beyond : Nat
deriving DecidableEq, Repr

/-- TRIM_LOOP (R166). -/
structure TrimReply where
  oldSet : Int
  oldRec : Int
  newSet : Int
  newRec : Int
  v0 : Int
  clamp6 : Bool
  clamp7 : Bool
deriving DecidableEq, Repr

/-- SET_CLOCK (R208). -/
structure ClockReply where
  dayBefore : Nat
  timeBefore : Nat
  dayAfter : Nat
  timeAfter : Nat
  midnight : Bool
deriving DecidableEq, Repr

/-- SET_ALLOWANCE (R134). -/
structure AllowanceReply where
  daily : Nat
  usedToday : Nat
  outstanding : Nat
  count : Nat
  remaining : Nat
deriving DecidableEq, Repr

/-- GET_ACCOUNT (R6). -/
structure AccountReply where
  number : Nat
  record : Account
  atLimit : Bool
  visits : Nat
deriving DecidableEq, Repr

/-- What a reply carries after its result code. -/
inductive ReplyData
  | none
  | account (r : AccountReply)
  | mode (mode : DepotMode) (drainPending : Bool)
  | clock (r : ClockReply)
  | allowance (r : AllowanceReply)
  | service (flag : ServiceFlag)
  | assigned (visit : Nat)
  | decision (o : Outcome)
  | settled (applied : Nat) (balance : Nat) (atLimit : Bool)
  | periodClosed (accounts : Nat)
  | trimmed (r : TrimReply)
  | discharged (moved : Nat) (vSet : Int)
  | linkReset (requests : Nat) (notices : Nat)
  | status (r : StatusReply)
  | visit (r : VisitReply)
  | queue (r : QueueReply)
  | bay (r : BayReply)
  | water (r : WaterReply)
  | reading (r : ReadingReply)
  | lane (r : LaneReply)
  | charges (r : ChargesReply)
  | confirmed (removed : Nat) (headSeq : Seq) (entries : Nat) (aged : Nat)
  | rewound (headSeq : Seq) (entries : Nat)
deriving DecidableEq, Repr

/-- A reply frame: kind, tag, result code and what follows (R200). -/
structure Reply where
  kind : Byte
  tag : Byte
  code : ResultCode
  data : ReplyData
deriving DecidableEq, Repr

/-- A frame the part sends. -/
inductive Frame
  | reply (r : Reply)
  | notice (n : Notice)
deriving DecidableEq, Repr

/-! ## Link Port (chapter 11) -/

/-- A request as its owner will take it: its kind with its body, or a frame of another kind. -/
inductive Request
  | putClass (b : Body PutClass)
  | putAccount (b : Body PutAccount)
  | dropAccount (b : Body Nat)
  | putTag (b : Body PutTag)
  | dropTag (b : Body TagNo)
  | putTariff (b : Body PutTariff)
  | putProgramme (b : Body PutProgramme)
  | setDepot (b : Body SetDepot)
  | setMode (b : Body SetMode)
  | setClock (b : Body SetClock)
  | setAllowance (b : Body Nat)
  | bayService (b : Body BayService)
  | releaseBay (b : Body Nat)
  | assignBay (b : Body AssignBay)
  | cancelVisit (b : Body Nat)
  | admitOverride (b : Body Nat)
  | settleAccount (b : Body SettleAccount)
  | closePeriod (b : Body Unit)
  | trimLoop (b : Body Unit)
  | discharge (b : Body Nat)
  | linkReset (b : Body Unit)
  | getStatus (b : Body Unit)
  | getVisit (b : Body GetVisit)
  | getQueue (b : Body Unit)
  | getBay (b : Body Nat)
  | getWater (b : Body Unit)
  | getAccount (b : Body Nat)
  | getReading (b : Body Nat)
  | snapLane (b : Body Nat)
  | takeCharges (b : Body Nat)
  | confirmCharges (b : Body Seq)
  | rewindCharges (b : Body Unit)
  | unknown (kind : Byte)
deriving DecidableEq, Repr

/-- A held request with its frame's tag. -/
structure Held where
  tag : Byte
  request : Request
deriving DecidableEq, Repr

structure Link where
  rxBuf : List Byte
  holding : List Held
  replies : List Reply
  notices : List Notice
  tx : Option Frame
  noticesLost : Bool
  crcErrors : Nat
  framingErrors : Nat
  busyAnswers : Nat
  dropped : Nat
  mark : Seq
  startKind : StartKind
deriving DecidableEq, Repr

/-! ## The whole part -/

structure State where
  pending : List Instr
  freshCounter : Nat
  now : Nat
  clock : Clock
  lp : Link
  dt : DepotTables
  gu : Pair LaneRecord
  vq : VisitQueue
  bc : Six BayRecord
  pr : Six BayRunner
  qs : Sampler
  bu : Blend
  sa : Arbiter
  lm : Loop
  cu : Charges
deriving DecidableEq, Repr

/-- The ways a command can stop the model: there are none. Every command of the table has its effect, and every cascade
of consequences comes to rest (log 5). -/
inductive Fault
deriving DecidableEq, Repr

/-- A command that has no meaning. -/
inductive Refusal
  /-- Raised by `exec` for a row that has no meaning in the model. Safe. No arm raises it. -/
  | notModelled (mnemonic : String)
deriving DecidableEq, Repr

/-! ## The values after a cold start -/

/-- The Class Table after a cold start (R2). -/
def coldClasses : Eight ClassRecord :=
  ⟨⟨8, 2, 80⟩, ⟨11, 3, 100⟩, ⟨7, 3, 90⟩, ⟨17, 5, 135⟩, ⟨20, 6, 160⟩, ⟨12, 2, 100⟩, ⟨12, 2, 100⟩, ⟨12, 2, 100⟩⟩

/-- Tariff 0 after a cold start (R19). -/
def coldTariff0 : Tariff :=
  ⟨Twelve.all 0, Twelve.all false, 0, 0, ⟨0, 0⟩, ⟨0, 0⟩, ⟨0, 0⟩⟩

/-- The default Depot Settings (R15). -/
def coldSettings : Settings where
  casualAdmission := false
  casualClass := .class4
  axleMode := ⟨.overlap, .overlap⟩
  debounce := 16
  laneStall := 180
  maxSegments := ⟨24, 24, 24, 24, 12, 12⟩
  lineVolume := Six.all 120
  callTimeout := 180
  seatingSettle := 3
  grantTimeout := 5
  startLead := 4
  runOn := 60
  filterInterval := 3600
  purgeDuration := 120
  purgeVolume := 150
  cartMask := ⟨true, true, true, true⟩
  leadMode := .variable
  pitCapacity := 30000
  tankCapacity := 20000
  reserveFloor := 600
  lowMark := 3000
  highMark := 18000
  carryOff := 40
  dailyAllowance := 40000
  allowanceThreshold := 4000
  autoFrost := true
  holdThreshold := 2
  drainThreshold := -3
  persistTime := 1800
  deferralMax := 1200
  chargeHold := 12
  probeSettle := ⟨2, 2, 1, 2, 2, 1, 2, 2⟩
  probePeriod := ⟨30, 30, 30, 60, 60, 60, 30, 30⟩
  calLo := ⟨0, 0, -20, 0, 0, -40, 0, 0⟩
  calHi := ⟨20000, 1000, 60, 5000, 100, 40, 30000, 20000⟩

/-- The tables after a cold start (R19). -/
def coldTables : DepotTables where
  classes := coldClasses
  accounts := []
  tags := []
  tariffs := ⟨some coldTariff0, none, none, none, none, none, none, none⟩
  programmes := Twelve.all none
  settings := coldSettings

/-- A treadle at a start: the taken level is the raw level, no window is timed (R44). -/
def startTreadle (raw : Bool) : TreadleState := ⟨raw, raw, none⟩

/-- A lane at a start (R44). -/
def startLane (l : LaneLevels) : LaneRecord where
  state := .idle
  treadleA := startTreadle l.treadleA
  treadleB := startTreadle l.treadleB
  counter := .none
  count := 0
  tags := []
  key := none
  axleSat := false
  reverse := false
  tagOver := false
  stall := none
  wait := none
  barrierPulse := none
  stopBeam := l.stopBeam
  clearBeam := l.clearBeam

/-- A bay after a cold start (R87). -/
def coldBay (l : BayLevels) : BayRecord where
  state := .closed
  service := .inService
  lineFilled := false
  held := none
  called := none
  releaseHold := false
  lastFault := .none
  callTimer := none
  settleTimer := none
  lossFilter := none
  exitPulse := none
  exitStall := none
  sensorTimer := none
  lamp := false
  wheelStop := l.wheelStop
  rearBeam := l.rearBeam

/-- A cleared reading (R122). -/
def clearedReading : Reading := ⟨0, 0, none, false, false, 25, false⟩

/-- The sampler after a cold or warm start, before its first choice (R122). -/
def startSampler : Sampler := ⟨Eight.all clearedReading, .idle, Six.all none, false, none⟩

/-- The arbiter after a cold start (R158). -/
def coldArbiter : Arbiter where
  channels := ⟨.idle, .idle⟩
  requests := Six.all false
  priority := Bay.all
  debt := 0
  purgeTimer := none
  purge := none
  pointer := .cart4
  cycle := .window
  cycleEnd := none

/-- The loop after a cold start (R177). -/
def coldLoop : Loop where
  vSet := 0
  vRec := 0
  heldLine := Six.all 0
  v0 := 0
  freshIn := 0
  discharged := 0
  carried := 0
  drained := 0
  mode := .closed
  holdOrigin := none
  drainPending := none
  deferral := none
  persist := none
  reclaim := false
  refills := Six.all none
  discharge := none
  drainValve := Six.all false
  strayReclaim := 0

/-- No counts. -/
def noCounts : DayCounts := ⟨0, 0, 0, 0, 0, 0⟩

/-- The charge unit after a cold start (R196). -/
def coldCharges : Charges where
  ring := ⟨0, []⟩
  nextSeq := 1
  reservations := 0
  firstDay := 0
  totals := noCounts
  pendingSummary := none
  posting := []
  writing := none

/-- The link port at a start, before START is queued (R204). -/
def startLink (mark : Seq) (kind : StartKind) : Link where
  rxBuf := []
  holding := []
  replies := []
  notices := []
  tx := none
  noticesLost := false
  crcErrors := 0
  framingErrors := 0
  busyAnswers := 0
  dropped := 0
  mark := mark
  startKind := kind

/-- The START notice of a cold start (R205). -/
def coldStartNotice : StartNotice where
  report := .cold
  interrupted := 0
  cancelled := 0
  strays := 0
  requestsDiscarded := 0
  noticesDiscarded := 0
  mode := .closed
  drainPending := false
  day := 0
  time := 0
  headSeq := 1
  nextSeq := 1
  entries := 0
  reservations := 0
  pendingSummary := false

/-- Every block at its cold values, before START is queued and the first conversion starts. -/
def State.cold (levels : FieldLevels) : State where
  pending := []
  freshCounter := 0
  now := 0
  clock := ⟨0, 0, 0⟩
  lp := startLink 1 .cold
  dt := coldTables
  gu := ⟨startLane levels.lanes.p1, startLane levels.lanes.p2⟩
  vq := ⟨[], [], [], 0⟩
  bc := ⟨coldBay levels.bays.s1, coldBay levels.bays.s2, coldBay levels.bays.s3, coldBay levels.bays.s4,
    coldBay levels.bays.s5, coldBay levels.bays.s6⟩
  pr := Six.all ⟨none, 0⟩
  qs := startSampler
  bu := ⟨0, Six.all none⟩
  sa := coldArbiter
  lm := coldLoop
  cu := coldCharges

/-- The machine right after a cold start with no input active (log 7): START (R205) has gone on to the idle transmitter
(log 6), and the converter has begun the background schedule with CH0, settle time 2 s (R122). -/
def State.reset : State :=
  { State.cold FieldLevels.quiet with
    lp := { startLink 1 .cold with tx := some (.notice (.start coldStartNotice)) }
    qs := { startSampler with converter := .converting .ch0 2000 } }

end Sys2Proof.Machine
end

