-- ==== Sys2Proof/Machine/Ops.lean ====
section
/-!
DEFINITION. The shared operations: keyed tables, timers, the notice and reply queues with the transmitter, the setters
of one lane, bay, phase plan or visit, and the work that a command does: the state as far as it has come, and the
consequences that are still to be taken.
-/

namespace Sys2Proof.Machine

open Sys2Proof

/-! ## Keyed tables -/

def Table.look {α : Type} (t : Table α) (k : Nat) : Option α :=
  match t with
  | [] => none
  | (j, v) :: rest => if j = k then some v else Table.look rest k

def Table.has {α : Type} (t : Table α) (k : Nat) : Bool := (Table.look t k).isSome

/-- Adds the entry of a new key in its place, or replaces that of a present one. -/
def Table.put {α : Type} (t : Table α) (k : Nat) (v : α) : Table α :=
  match t with
  | [] => [(k, v)]
  | (j, u) :: rest =>
    if k < j then (k, v) :: (j, u) :: rest
    else if k = j then (k, v) :: rest
    else (j, u) :: Table.put rest k v

def Table.del {α : Type} (t : Table α) (k : Nat) : Table α :=
  match t with
  | [] => []
  | (j, u) :: rest => if j = k then rest else (j, u) :: Table.del rest k

/-- Changes the entry of a present key. -/
def Table.upd {α : Type} (t : Table α) (k : Nat) (f : α → α) : Table α :=
  match t with
  | [] => []
  | (j, u) :: rest => if j = k then (j, f u) :: rest else (j, u) :: Table.upd rest k f

/-- The canonical form: keys strictly rising. -/
def Table.wf {α : Type} (t : Table α) : Bool :=
  match t with
  | [] => true
  | [_] => true
  | (j, _) :: (k, v) :: rest => decide (j < k) && Table.wf ((k, v) :: rest)

/-! ## Arithmetic of the manual -/

/-- A count that stops at its bound. -/
def satAdd (bound a b : Nat) : Nat := min bound (a + b)

def max16 : Nat := 65535
def max32 : Nat := 4294967295

def ceilDiv (a b : Nat) : Nat := (a + b - 1) / b

/-- Round half up of a / b. -/
def roundDiv (a b : Nat) : Nat := (2 * a + b) / (2 * b)

/-! ## Time (R206) -/

/-- The ms at which a timer of so many seconds started now expires. -/
def State.due (s : State) (seconds : Nat) : Nat := s.now + 1000 * seconds

/-- The expiry of a timer is taken at its time: the timebase is there (log 2). -/
def State.reach (s : State) (t : Nat) : State := { s with now := max s.now t }

/-- A time in ms as whole seconds in a 'seconds left' or 'seconds drawn' field (log 9). -/
def wholeSeconds (ms : Nat) : Nat :=
  if ms % 1000 = 0 then ms / 1000
  else if Config.secondsRoundUp ms then ms / 1000 + 1 else ms / 1000

/-- A time in ms as tenths of a second (log 10). -/
def wholeTenths (ms : Nat) : Nat :=
  if ms % 100 = 0 then ms / 100
  else if Config.tenthsRoundUp ms then ms / 100 + 1 else ms / 100

def State.secondsLeft (s : State) (t : Nat) : Nat := wholeSeconds (t - s.now)

def State.timerLeft (s : State) (t : Option Nat) : Option Nat := t.map s.secondsLeft

/-! ## The work of a command -/

/-- When the reply of a request is formed, its consequences taken. -/
inductive ReplyForm
  | ready (code : ResultCode) (data : ReplyData)
  | modeNow                 -- SET_MODE: the mode after the request
  | serviceNow (bay : Bay)  -- BAY_SERVICE: the flag after the request
deriving DecidableEq, Repr

/-- A consequence still to be taken. -/
inductive Task
  | matchPass
  | capacity
  | retry (lane : Lane)
  | grantPass
  | purgeTest
  | plans (answers : List (Bay × ReadingsUsed))
  | startPhase (bay : Bay) (number : Nat)
  | endPhase (bay : Bay) (cause : PhaseCause) (abort : Bool)
  | follow (bay : Bay) (visit number : Nat) (cause : PhaseCause) (abort : Bool)
  | drainCheck
  | drainCuts (rest : List Bay) (cut : Nat) (cause : ModeCause)
  | drainRest (cut : Nat) (cause : ModeCause)
  | refillChoice
  | chooseNext (afterDefault : Bool)
  | ch5
deriving DecidableEq, Repr

/-- The state as far as the command has come, and the consequences to take next, in order. -/
structure Work where
  s : State
  todo : List Task
deriving DecidableEq, Repr

def Work.upd (w : Work) (f : State → State) : Work := { w with s := f w.s }

def Work.after (w : Work) (ts : List Task) : Work := { w with todo := w.todo ++ ts }

/-- An operation whose consequences are not taken one by one: the caller adds once what they come to (log 42). -/
def Work.silent (w : Work) (f : Work → Work) : Work := w.upd fun s => (f ⟨s, []⟩).s

/-! ## Link Port: queues and transmitter (R200, R201) -/

/-- An idle transmitter takes the head of the reply queue, or else of the notice queue (R201, log 6). -/
def Link.pump (l : Link) : Link :=
  match l.tx, l.replies, l.notices with
  | some _, _, _ => l
  | none, r :: rest, _ => { l with tx := some (.reply r), replies := rest }
  | none, [], n :: rest => { l with tx := some (.notice n), notices := rest }
  | none, [], [] => l

def Link.pushNotice (l : Link) (n : Notice) : Link :=
  if l.notices.length < 16 then { l with notices := l.notices ++ [n] } else { l with noticesLost := true }

def Link.pushReply (l : Link) (r : Reply) : Link := { l with replies := l.replies ++ [r] }

def State.modLink (s : State) (f : Link → Link) : State := { s with lp := f s.lp }

/-- A block hands a notice to the Link Port (R201). -/
def State.notify (s : State) (n : Notice) : State := s.modLink fun l => (l.pushNotice n).pump

/-- A reply joins the reply queue (R200). -/
def State.answer (s : State) (r : Reply) : State := s.modLink fun l => (l.pushReply r).pump

def Work.notify (w : Work) (n : Notice) : Work := w.upd (·.notify n)

/-- The kind byte of the reply to a request kind (R200). -/
def replyKind (kind : Byte) : Byte := kind + 0x80#8

/-! ## Setters -/

def State.modLane (s : State) (l : Lane) (f : LaneRecord → LaneRecord) : State :=
  { s with gu := s.gu.set l (f (s.gu.get l)) }

def State.modBay (s : State) (b : Bay) (f : BayRecord → BayRecord) : State :=
  { s with bc := s.bc.set b (f (s.bc.get b)) }

def State.modRunner (s : State) (b : Bay) (f : BayRunner → BayRunner) : State :=
  { s with pr := s.pr.set b (f (s.pr.get b)) }

/-- Changes the running phase of a bay, if one runs. -/
def State.modPlan (s : State) (b : Bay) (f : PhaseRun → PhaseRun) : State :=
  s.modRunner b fun r => { r with plan := r.plan.map f }

def State.modVisits (s : State) (f : Table Visit → Table Visit) : State :=
  { s with vq := { s.vq with visits := f s.vq.visits } }

def State.modVisit (s : State) (n : Nat) (f : Visit → Visit) : State := s.modVisits fun t => Table.upd t n f

def State.modSampler (s : State) (f : Sampler → Sampler) : State := { s with qs := f s.qs }

def State.modArbiter (s : State) (f : Arbiter → Arbiter) : State := { s with sa := f s.sa }

def State.modLoop (s : State) (f : Loop → Loop) : State := { s with lm := f s.lm }

def State.modCharges (s : State) (f : Charges → Charges) : State := { s with cu := f s.cu }

def State.modTables (s : State) (f : DepotTables → DepotTables) : State := { s with dt := f s.dt }

/-! ## Short names for what many rules read -/

def State.settings (s : State) : Settings := s.dt.settings

def State.mode (s : State) : DepotMode := s.lm.mode

def State.visit? (s : State) (n : Nat) : Option Visit := Table.look s.vq.visits n

def State.account? (s : State) (n : Nat) : Option Account := Table.look s.dt.accounts n

def State.plan? (s : State) (b : Bay) : Option PhaseRun := (s.pr.get b).plan

/-- The mode is OPEN or HOLD. -/
def washes : DepotMode → Bool
  | .opened | .hold => true
  | _ => false

/-- The mode is OPEN, HOLD or REFILL. -/
def circulates : DepotMode → Bool
  | .opened | .hold | .refill => true
  | _ => false

/-- Avail: V_rec less the reserve floor, and not less than 0. -/
def State.avail (s : State) : Nat := (s.lm.vRec - s.settings.reserveFloor).toNat

/-- The places of the ring in use: entries plus reservations (R179). -/
def State.places (s : State) : Nat := s.cu.ring.entries.length + s.cu.reservations

/-- The remaining fresh allowance A (R132). -/
def State.outstanding (s : State) : Nat := (s.bu.reservations.toList.filterMap id).sum

def State.remaining (s : State) : Nat := s.settings.dailyAllowance - (s.bu.usedToday + s.outstanding)

/-- An account is at limit when its credit limit is above 0 and its balance is at or above it (R4). -/
def Account.atLimit (a : Account) : Bool := decide (0 < a.credit) && decide (a.credit ≤ a.balance)

/-- The number of aged entries of the ring. -/
def State.agedCount (s : State) : Nat := (s.cu.ring.entries.filter (·.aged)).length

def BayRecord.seated (b : BayRecord) : Bool := b.wheelStop && b.rearBeam

def BayRecord.clear (b : BayRecord) : Bool := !b.wheelStop && !b.rearBeam

def State.anyWashing (s : State) : Bool := s.bc.toList.any fun b => decide (b.state = .washing)

end Sys2Proof.Machine
end

