-- ==== Sys2Proof/Machine/Flags.lean ====
section
/-!
DEFINITION. The flags: unions of phase flags, the quality flags of a plan and the strongest flag action (R125, R126,
R136), and the bytes that sets of flags take on the link (R210).
-/

namespace Sys2Proof.Machine

open Sys2Proof

/-- The union of two sets of phase flags (R98 step 5). -/
def PhaseFlags.union (a b : PhaseFlags) : PhaseFlags :=
  ⟨a.stale || b.stale, a.clamp || b.clamp, a.fresh || b.fresh, a.filter || b.filter, a.relax || b.relax,
    a.lowRec || b.lowRec, a.short || b.short⟩

/-- A flag other than RELAX is raised (R136). -/
def PhaseFlags.reported (f : PhaseFlags) : Bool :=
  f.stale || f.clamp || f.fresh || f.filter || f.lowRec || f.short

def actionRank : FlagAction → Nat
  | .note => 0
  | .zero => 1
  | .skip => 2
  | .abort => 3

/-- The stronger of two actions: ABORT over SKIP over ZERO over NOTE (R126). -/
def stronger (a b : FlagAction) : FlagAction := if actionRank a < actionRank b then b else a

/-- The action of a flag: NOTE where it is not raised. -/
def actionIf (raised : Bool) (a : FlagAction) : FlagAction := if raised then a else .note

/-- The action that applies under the raised flags (R126). -/
def chosenAction (f : PhaseFlags) (r : PhaseRecord) : FlagAction :=
  stronger (stronger (actionIf f.stale r.onStale) (actionIf f.clamp r.onClamp))
    (stronger (actionIf f.fresh r.onFresh) (actionIf f.filter r.onFilter))

/-- Flags as a number, bit 0 the first of the list (R210). -/
def bitsOf (l : List Bool) : Nat :=
  match l with
  | [] => 0
  | b :: rest => (if b then 1 else 0) + 2 * bitsOf rest

def PhaseFlags.bits (f : PhaseFlags) : Nat :=
  bitsOf [f.stale, f.clamp, f.fresh, f.filter, f.relax, f.lowRec, f.short]

def OtherFlags.bits (f : OtherFlags) : Nat := bitsOf [f.axleAssumed, f.tagOver, f.mixed, f.axleSat, f.reverse]

end Sys2Proof.Machine
end

