-- ==== Sys2Proof/Machine/Codec.lean ====
section
/-!
DEFINITION. The bytes of the frames that the part sends (R198, R210, section 11.7), and the CRC. Where R210 leaves a
width or a numbering to the reader, log 13 says what is taken.
-/

namespace Sys2Proof.Machine

open Sys2Proof

/-! ## Numbers, marks and lists (R210) -/

def byte (n : Nat) : Byte := BitVec.ofNat 8 n

/-- An unsigned number in `k` bytes, the most significant first. -/
def num (k n : Nat) : List Byte :=
  match k with
  | 0 => []
  | k + 1 => byte (n / 256 ^ k) :: num k n

/-- A two's-complement number in `k` bytes. -/
def int (k : Nat) (z : Int) : List Byte := num k (z % (256 ^ k : Nat)).toNat

def flag (b : Bool) : List Byte := [byte b.toNat]

/-- A field that may be none, 0 not among its values. -/
def orZero (k : Nat) (o : Option Nat) : List Byte := num k (o.getD 0)

/-- A field that may be absent, 0 among its values: a byte of presence, then the field. -/
def presence (k : Nat) (o : Option Nat) : List Byte := flag o.isSome ++ num k (o.getD 0)

/-- A list with its count. -/
def counted {α : Type} (f : α → List Byte) (l : List α) : List Byte := num 1 l.length ++ l.flatMap f

def seqBytes (s : Seq) : List Byte := num 4 s.toNat

/-! ## Names, numbered from 1 in the order of their tables (R210) -/

def modeCode : DepotMode → Nat
  | .opened => 1
  | .hold => 2
  | .closed => 3
  | .drain => 4
  | .refill => 5

def originCode : Option HoldOrigin → Nat
  | none => 0
  | some .host => 1
  | some .frost => 2
  | some .drain => 3

def modeCauseCode : ModeCause → Nat
  | .host => 1
  | .frost => 2
  | .refillDone => 3
  | .deferral => 4

def statusCode : AccountStatus → Nat
  | .active => 1
  | .blocked => 2

def laneStateCode : LaneState → Nat
  | .idle => 1
  | .occupied => 2
  | .waiting _ _ => 3
  | .admitted _ _ => 4
  | .refused _ => 5

def reasonCode : RefuseReason → Nat
  | .closed => 1
  | .duplicate => 2
  | .blocked => 3
  | .unknown => 4
  | .noBay => 5
  | .full => 6

def axleModeCode : AxleMode → Nat
  | .overlap => 1
  | .spaced => 2

/-- The counter states, the two tables of R23 and R24 merged with GAP last (log 13). -/
def counterCode : CounterState → Nat
  | .none => 1
  | .passage .onA _ => 2
  | .passage .onAB _ => 3
  | .passage .onB _ => 4
  | .passage .gap _ => 5

def directionCode : CounterState → Nat
  | .none => 0
  | .passage _ .forward => 1
  | .passage _ .reverse => 2

def visitLaneCode : VisitLane → Nat
  | .lane .lane1 => 1
  | .lane .lane2 => 2
  | .host => 3

def visitStateCode : VisitState → Nat
  | .queued => 1
  | .called => 2
  | .inBay => 3
  | .interrupted => 4
  | .finished => 5

def endCauseCode : Option EndCause → Nat
  | none => 0
  | some .complete => 1
  | some .exit => 2
  | some .abandoned => 3
  | some .interrupted => 4
  | some .mode => 5
  | some .fault => 6

/-- The phase end causes in the order of R99. -/
def phaseCauseCode : PhaseCause → Nat
  | .complete => 1
  | .shortTime => 2
  | .shortPlan => 3
  | .skipped => 4
  | .cutExit => 5
  | .cutMode => 6
  | .abandoned => 7
  | .waitLimit => 8
  | .fault => 9
  | .interrupted => 10

def cancelCode : CancelCause → Nat
  | .host => 1
  | .noShow => 2
  | .mode => 3
  | .restart => 4

def bayStateCode : BayState → Nat
  | .closed => 1
  | .refilling => 2
  | .empty => 3
  | .called => 4
  | .seating => 5
  | .washing => 6
  | .finishing => 7
  | .releasing => 8
  | .stray => 9

def serviceCode : ServiceFlag → Nat
  | .inService => 1
  | .outPending => 2
  | .outOfService => 3

def faultCode : BayFault → Nat
  | .none => 1
  | .valve => 2
  | .sensor => 3
  | .exitStall => 4

def kindCode : PhaseKind → Nat
  | .wet => 1
  | .dry => 2

/-- The stages: IDLE is 1. -/
def stageCode : Stage → Nat
  | .reading => 2
  | .paused => 3
  | .running => 4

def genCode : GenState → Nat
  | .idle => 1
  | .delay => 2
  | .on => 3
  | .off => 4

def actionCode : FlagAction → Nat
  | .note => 1
  | .zero => 2
  | .skip => 3
  | .abort => 4

def outcomeCode : PlanOutcome → Nat
  | .plan => 1
  | .skipped => 2
  | .aborted => 3

def answerCode : ReleaseAnswer → Nat
  | .permit => 1
  | .free => 2

def channelStateCode : SupplyState → Nat
  | .idle => 1
  | .starting _ _ => 2
  | .granted _ _ => 3
  | .drawing _ _ _ => 4
  | .runOn _ => 5

def leadCode : LeadMode → Nat
  | .variable => 1
  | .fixed => 2

def cycleCode : Option CycleStage → Nat
  | none => 0
  | some .window => 1
  | some .slot => 2

def sourceCode : RefillSource → Nat
  | .recycled => 1
  | .well => 2

def resultCode : ResultCode → Nat
  | .ok => 0
  | .busy => 1
  | .unknownKind => 2
  | .badLength => 3
  | .range => 4
  | .state => 5
  | .notFound => 6
  | .full => 7
  | .duplicate => 8

/-- Start kind and cause (R205). -/
def startCodes : StartReport → List Byte
  | .cold => [1, 1]
  | .warm .resetLine => [2, 2]
  | .warm .powerUp => [2, 3]
  | .linkReset => [3, 4]
  | .lineBreak => [3, 5]

def bayOr0 (b : Option Bay) : List Byte := num 1 (match b with
  | some b => b.num
  | none => 0)

/-! ## Records -/

/-- A reading used: value, STALE, CLAMP. -/
def usedBytes (u : UsedReading) : List Byte := int 3 u.value ++ flag u.stale ++ flag u.clamp

def readingsBytes (u : ReadingsUsed) : List Byte := usedBytes u.cr ++ usedBytes u.tr ++ usedBytes u.cf ++ usedBytes u.tf

/-- A reading used that may be absent. -/
def usedOr (u : Option UsedReading) : List Byte :=
  match u with
  | some u => flag true ++ usedBytes u
  | none => [0, 0, 0, 0, 0, 0]

/-- The planned fresh and recycled, each absent before the plan. -/
def sharesBytes (f : Option PlanFigures) : List Byte := presence 2 (f.map (·.fresh)) ++ presence 2 (f.map (·.recycled))

/-- The figures of a phase result or a QUALITY: V' of a phase that was not run may be 0 (R130). -/
def figuresBytes (f : Option PlanFigures) : List Byte :=
  presence 2 (f.map (·.r)) ++ presence 2 (f.map (·.volume)) ++ sharesBytes f

/-- The figures of a running phase, whose V' is at least 10 L (R131). -/
def runningFiguresBytes (f : Option PlanFigures) : List Byte :=
  presence 2 (f.map (·.r)) ++ orZero 2 (f.map (·.volume)) ++ sharesBytes f

def tagBytes (l : List TagNo) : List Byte := counted (num 5) l

/-- A phase result (R99). -/
def resultBytes (p : PhaseResult) : List Byte :=
  num 1 p.number ++ num 1 (kindCode p.kind) ++ num 2 p.volume ++ num 1 p.weight ++ num 4 p.timeLimit ++
    num 1 (phaseCauseCode p.cause) ++ figuresBytes p.figures ++ num 2 p.fresh ++ num 2 p.recycled ++
    num 2 p.carryOff ++ usedOr (p.readings.map (·.cr)) ++ usedOr (p.readings.map (·.tr)) ++
    usedOr (p.readings.map (·.cf)) ++ usedOr (p.readings.map (·.tf)) ++ num 1 p.flags.bits ++ num 4 p.running ++
    num 4 p.paused ++ num 1 p.timeouts ++ num 1 p.covered

/-- The VISIT entry (section 11.7). -/
def visitEntryBytes (seq : Seq) (aged : Bool) (e : VisitEntry) : List Byte :=
  seqBytes seq ++ num 1 1 ++ flag aged ++ num 2 e.visit ++ orZero 2 e.account ++ num 1 e.cls.num ++
    num 1 e.price.axlesUsed ++ num 1 e.programme.num ++ num 1 e.phasesRun ++ num 1 e.phasesCompleted ++
    num 2 e.price.fresh ++ num 2 e.price.recycled ++ num 3 e.price.base ++ num 3 e.price.axleCharge ++
    num 3 e.price.waterCharge ++ num 4 e.price.credit ++ num 3 e.price.discount ++ num 4 e.price.net ++
    num 1 e.quality.bits ++ num 1 e.other.bits ++ num 1 (endCauseCode e.endCause) ++ num 2 e.day ++ num 3 e.time ++
    tagBytes e.tags

/-- The DAY entry (section 11.7). -/
def dayEntryBytes (seq : Seq) (aged : Bool) (x : Summary) (day time : Nat) : List Byte :=
  seqBytes seq ++ num 1 2 ++ flag aged ++ num 2 x.first ++ num 2 x.last ++ num 4 x.counts.visits ++
    num 4 x.counts.net ++ num 4 x.counts.fresh ++ num 4 x.counts.recycled ++ num 4 x.counts.discharged ++
    num 4 x.counts.purges ++ num 2 day ++ num 3 time

def entryBytes (e : EntryCopy) : List Byte :=
  match e.body with
  | .visit v => visitEntryBytes e.seq e.aged v
  | .day x d t => dayEntryBytes e.seq e.aged x d t

/-! ## Notices -/

def startBytes (n : StartNotice) : List Byte :=
  startCodes n.report ++ num 1 n.interrupted ++ num 1 n.cancelled ++ num 1 n.strays ++ num 1 n.requestsDiscarded ++
    num 1 n.noticesDiscarded ++ num 1 (modeCode n.mode) ++ flag n.drainPending ++ num 2 n.day ++ num 3 n.time ++
    seqBytes n.headSeq ++ seqBytes n.nextSeq ++ num 1 n.entries ++ num 1 n.reservations ++ flag n.pendingSummary

def bayStateBytes (n : BayStateNotice) : List Byte :=
  num 1 n.bay.num ++ num 1 (bayStateCode n.entered) ++ num 1 (bayStateCode n.left) ++ orZero 2 n.held ++
    orZero 2 n.released ++ num 1 (serviceCode n.service) ++ flag n.lineFilled ++ num 1 (faultCode n.lastFault)

def chargeBytes : ChargePosted → List Byte
  | .visit seq v bay account net answer places =>
    num 1 1 ++ seqBytes seq ++ num 2 v ++ bayOr0 bay ++ orZero 2 account ++ num 4 net ++ num 1 (answerCode answer) ++
      num 1 places
  | .day seq first last places => num 1 2 ++ seqBytes seq ++ num 2 first ++ num 2 last ++ num 1 places

/-- OVERFLOW (R163). No rule states the range of the litres discharged: the model sends them in 4 bytes, as D (log 13). -/
def overflowBytes (n : OverflowNotice) : List Byte :=
  num 4 n.litres ++
    (match n.cause with
      | .phase b => num 1 1 ++ num 1 b.num
      | .purge => num 1 2 ++ num 1 0) ++
    int 4 n.vSet ++ num 2 n.capacity

def modeBytes (n : ModeNotice) : List Byte :=
  num 1 (modeCode n.entered) ++ num 1 (modeCode n.left) ++ num 1 (modeCauseCode n.cause) ++
    num 1 (originCode n.holdOrigin) ++ flag n.drainPending ++ presence 4 n.deferralLeft ++ int 3 n.ch5Value ++
    flag n.ch5Clamp ++ presence 2 n.litresDrained ++ presence 1 n.phasesCut

def qualityBytes (n : QualityNotice) : List Byte :=
  num 1 n.bay.num ++ num 2 n.visit ++ num 1 n.phase ++ num 1 n.flags.bits ++ num 1 (actionCode n.action) ++
    num 1 (outcomeCode n.outcome) ++ readingsBytes n.readings ++ num 2 n.condLimit ++ num 2 n.turbLimit ++
    num 4 n.avail ++ num 3 n.allowance ++ num 1 n.debt ++ figuresBytes n.figures

/-- The kind of a notice, numbered from 0x40 (section 11.7). -/
def Notice.kind : Notice → Byte
  | .start _ => 0x40
  | .admitted _ => 0x41
  | .refused _ => 0x42
  | .laneStall _ => 0x43
  | .called _ => 0x44
  | .cancelled _ => 0x45
  | .bayState _ => 0x46
  | .exitStall _ _ => 0x47
  | .stray _ _ _ _ => 0x48
  | .visitDone _ => 0x49
  | .chargePosted _ => 0x4A
  | .collectOverdue _ => 0x4B
  | .dayClosed _ => 0x4C
  | .purge _ => 0x4D
  | .overflow _ => 0x4E
  | .mode _ => 0x4F
  | .quality _ => 0x50

def Notice.body : Notice → List Byte
  | .start n => startBytes n
  | .admitted n =>
    num 1 n.lane.num ++ num 2 n.visit ++ orZero 2 n.account ++ num 1 n.cls.num ++ num 1 n.programme.num ++
      flag n.permit ++ num 1 n.tagCount ++ flag n.tagOver ++ flag n.mixed ++ flag n.override
  | .refused n =>
    num 1 n.lane.num ++ num 1 (reasonCode n.reason) ++ tagBytes n.tags ++ orZero 2 n.account ++ num 1 n.cls.num ++
      flag n.override
  | .laneStall n =>
    num 1 n.lane.num ++ num 1 (if n.leftRefused then 5 else 2) ++ num 1 n.count ++ num 1 n.tagCount
  | .called n => num 2 n.visit ++ num 1 n.bay.num ++ num 1 n.cls.num ++ num 1 n.noShow
  | .cancelled n =>
    num 2 n.visit ++ num 1 (visitLaneCode n.lane) ++ orZero 2 n.account ++ num 1 (visitStateCode n.left) ++
      bayOr0 n.bay ++ num 1 (cancelCode n.cause)
  | .bayState n => bayStateBytes n
  | .exitStall b released => num 1 b.num ++ orZero 2 released
  | .stray b w r restart => num 1 b.num ++ flag w ++ flag r ++ flag restart
  | .visitDone n =>
    num 2 n.visit ++ bayOr0 n.bay ++ num 1 (endCauseCode n.endCause) ++ num 1 n.results ++ num 1 n.completed ++
      num 1 n.quality.bits ++ num 1 n.other.bits
  | .chargePosted n => chargeBytes n
  | .collectOverdue n =>
    seqBytes n.seq ++ num 1 (if n.isVisit then 1 else 2) ++ orZero 2 n.visit ++ orZero 2 n.account ++ num 2 n.day ++
      num 3 n.time ++ num 1 n.aged
  | .dayClosed n => num 2 n.ended ++ num 2 n.first ++ num 2 n.last ++ flag n.joined ++ num 1 n.places
  | .purge n =>
    num 1 n.cart.num ++ num 2 n.moved ++ num 1 n.debt ++ num 1 n.next.num ++ num 1 (leadCode n.leadMode) ++
      int 4 n.vRec ++ int 4 n.vSet
  | .overflow n => overflowBytes n
  | .mode n => modeBytes n
  | .quality n => qualityBytes n

/-! ## Replies -/

/-- GET_STATUS after its result byte (section 11.7). -/
def statusBytes (r : StatusReply) : List Byte :=
  num 1 (bitsOf [r.noticesLost, r.drainPending, r.pendingSummary, r.purgeInProgress, r.lastCold]) ++
    num 1 (modeCode r.mode) ++ num 1 (originCode r.holdOrigin) ++ num 2 r.day ++ num 3 r.time ++
    num 4 r.secondsSinceStart ++ num 2 r.crcErrors ++ num 2 r.framingErrors ++ num 2 r.busyAnswers ++
    num 2 r.dropped ++ num 1 r.noticesWaiting ++ num 1 (laneStateCode r.lanes.p1) ++
    num 1 (laneStateCode r.lanes.p2) ++ (r.bays.toList.flatMap fun b => num 1 (bayStateCode b)) ++ num 1 r.visits ++
    num 1 r.queued ++ num 1 r.called ++ num 1 r.entries ++ num 1 r.reservations ++ num 1 r.aged ++
    seqBytes r.nextSeq ++ num 1 r.debt ++ num 4 r.remaining ++ int 4 r.vRec

/-- GET_VISIT up to the phase results. -/
def visitHeadBytes (r : VisitReply) : List Byte :=
  num 2 r.number ++ num 1 (visitLaneCode r.record.lane) ++ num 2 r.record.day ++ num 3 r.record.time ++
    tagBytes r.record.tags ++ orZero 2 r.record.account ++ num 1 r.record.cls.num ++ presence 1 r.record.axles ++
    num 1 r.record.programme.num ++ flag r.record.permit ++ num 1 r.record.noShow ++
    num 1 (visitStateCode r.record.state) ++ bayOr0 r.record.bay ++ num 1 (endCauseCode r.record.endCause) ++
    num 1 r.resultsHeld

def visitTailBytes (r : VisitReply) : List Byte :=
  num 1 r.record.quality.bits ++ num 1 r.record.other.bits ++ presence 4 (r.record.posted.map (·.toNat)) ++
    orZero 1 r.place

def visitBytes (r : VisitReply) : List Byte := visitHeadBytes r ++ counted resultBytes r.sent ++ visitTailBytes r

def queueBytes (r : QueueReply) : List Byte :=
  num 1 r.visits ++
    counted (fun q => num 2 q.visit ++ num 1 q.cls.num ++ num 1 (visitLaneCode q.lane) ++ num 1 q.programme.num ++
      num 1 q.noShow) r.queued ++
    counted (fun c => num 2 c.visit ++ bayOr0 c.bay ++ num 1 c.noShow) r.called

def phaseViewBytes (p : PhaseView) : List Byte :=
  num 1 p.number ++ num 1 (kindCode p.kind) ++ num 1 (stageCode p.stage) ++ num 2 p.volume ++ num 4 p.timeLimit ++
    runningFiguresBytes p.figures ++ num 2 p.reserved ++ num 2 p.fresh ++ num 2 p.recycled ++ num 1 p.flags.bits ++
    orZero 1 (p.grant.map (·.num)) ++ flag p.requested ++ num 1 p.timeouts ++ num 4 p.running ++ num 4 p.paused ++
    flag p.freshOpen ++ flag p.recycledOpen ++ num 1 (genCode p.genState) ++ num 4 p.genLeft ++ num 1 p.segment ++
    num 1 p.covered

def bayBytes (r : BayReply) : List Byte :=
  num 1 r.bay.num ++ num 1 (bayStateCode r.state) ++ num 1 (serviceCode r.service) ++ flag r.lineFilled ++
    orZero 2 r.held ++ orZero 2 r.called ++ flag r.releaseHold ++ num 1 (faultCode r.lastFault) ++ flag r.wheelStop ++
    flag r.rearBeam ++ flag r.exitButton ++ presence 4 r.callLeft ++ presence 4 r.settleLeft ++ presence 4 r.lossLeft ++
    presence 4 r.exitPulseLeft ++ presence 4 r.exitStallLeft ++ presence 4 r.sensorLeft ++ flag r.lamp ++
    flag r.barrierOpen ++ num 1 r.maxSegments ++ num 2 r.lineVolume ++
    (match r.phase with
      | some p => phaseViewBytes p
      | none => num 1 1) ++ num 2 r.stray

/-- A supply channel: its seconds left and seconds drawn may be 0, its cut time is a Draw_max and never 0 (R15, R139,
R145). -/
def supplyBytes (v : SupplyView) : List Byte :=
  num 1 (channelStateCode v.state) ++ bayOr0 v.bay ++ presence 4 v.secondsLeft ++ presence 4 v.drawn ++
    orZero 4 v.cutTime

def levelBytes (r : Reading) : List Byte := int 3 r.value ++ flag r.valid ++ flag r.clamp

/-- One bay's refill in flight: its source, 0 for none, and its seconds left, absent for none (R176). -/
def refillBytes (f : Option RefillView) : List Byte :=
  orZero 1 (f.map fun f => sourceCode f.source) ++ presence 4 (f.map (·.secondsLeft))

/-- GET_WATER: the held line volumes and then the refills have one place per bay each (log 13). -/
def waterBytes (r : WaterReply) : List Byte :=
  int 4 r.vSet ++ int 4 r.vRec ++ num 2 r.vLines ++ num 2 r.vBays ++ int 4 r.v0 ++ num 4 r.freshIn ++
    num 4 r.discharged ++ num 4 r.carried ++ num 4 r.drained ++ int 4 r.leftSide ++ int 4 r.rightSide ++
    (r.heldLine.toList.flatMap (num 2)) ++
    (r.refills.toList.flatMap refillBytes) ++
    num 1 (modeCode r.mode) ++ num 1 (originCode r.holdOrigin) ++ flag r.drainPending ++ presence 4 r.deferralLeft ++
    presence 4 r.persistLeft ++ num 1 (if r.reclaim then 1 else 2) ++ num 2 r.strayReclaim ++ flag r.dischargeOpen ++
    presence 4 r.dischargeLeft ++ levelBytes r.ch6 ++ levelBytes r.ch7 ++ num 4 r.avail ++ num 3 r.daily ++
    num 4 r.usedToday ++ num 2 r.outstanding ++ num 1 r.reservationCount ++ num 3 r.remaining ++ num 3 r.threshold ++
    flag r.belowThreshold ++ supplyBytes r.supply1 ++ supplyBytes r.supply2 ++
    counted (fun b => num 1 b.num) r.requestSet ++ counted (fun b => num 1 b.num) r.priority ++ num 1 r.debt ++
    presence 4 r.purgeTimerLeft ++ num 4 r.spacing ++ num 4 r.drawMax ++ orZero 1 (r.purgeCart.map (·.num)) ++
    presence 4 r.purgeLeft ++ num 1 r.pointer.num ++ num 1 (bitsOf [r.mask.f1, r.mask.f2, r.mask.f3, r.mask.f4]) ++
    num 1 (leadCode r.leadMode) ++ num 1 (cycleCode r.cycle) ++ presence 4 r.cycleLeft

/-- The fields that CH0 or CH1 alone has, each marked absent on the other channels (R121, R210). -/
def channelOwnBytes (r : ReadingReply) : List Byte :=
  flag r.tempUsed.isSome ++ int 1 (r.tempUsed.getD 0) ++ orZero 1 (r.compensated.map fun c => if c then 1 else 2) ++
    presence 1 (r.held.map (·.toNat)) ++ presence 4 r.holdLeft

/-- GET_READING: the converter's state is a field that is absent in IDLE, and else the channel (log 13). -/
def readingBytes (r : ReadingReply) : List Byte :=
  num 1 r.channel.num ++ int 3 r.value ++ num 2 r.code.toNat ++ flag r.clamp ++ flag r.valid ++
    presence 4 r.ageSeconds ++ flag r.stale ++ channelOwnBytes r ++ flag r.due ++ num 1 r.waiting ++
    presence 1 (r.converting.map (·.num)) ++ presence 4 r.converterLeft ++ num 4 r.settle ++ num 4 r.period ++
    int 3 r.lo ++ int 3 r.hi

def laneBytes (r : LaneReply) : List Byte :=
  num 1 r.lane.num ++ num 1 (laneStateCode r.state) ++ orZero 1 (r.reason.map reasonCode) ++
    num 1 (axleModeCode r.axleMode) ++ num 1 (counterCode r.counter) ++ num 1 (directionCode r.counter) ++
    num 1 r.count ++ num 1 (bitsOf [r.axleSat, r.reverse, r.tagOver]) ++ tagBytes r.tags ++
    orZero 1 (r.key.map (·.num)) ++ flag r.override ++ orZero 2 r.admitted ++ presence 1 (r.clearSeen.map (·.toNat)) ++
    presence 4 r.secondsLeft ++ flag r.takenA ++ flag r.takenB ++ flag r.stopBeam ++ flag r.clearBeam

/-- The outcome of an ADMIT_OVERRIDE: ADMITTED 1, WAITING 2, REFUSED 3 (log 13). -/
def decisionBytes : Outcome → List Byte
  | .admitted n => num 1 1 ++ num 2 n ++ num 1 0
  | .waiting => num 1 2 ++ num 2 0 ++ num 1 0
  | .refused r => num 1 3 ++ num 2 0 ++ num 1 (reasonCode r)

def ReplyData.bytes : ReplyData → List Byte
  | .none => []
  | .account r =>
    num 2 r.number ++ num 1 (statusCode r.record.status) ++ num 1 r.record.tariff.num ++
      num 1 r.record.programme.num ++ num 4 r.record.credit ++ num 4 r.record.balance ++ flag r.record.balSat ++
      num 2 r.record.periodVisits ++ flag r.atLimit ++ num 1 r.visits
  | .mode m pending => num 1 (modeCode m) ++ flag pending
  | .clock r => num 2 r.dayBefore ++ num 3 r.timeBefore ++ num 2 r.dayAfter ++ num 3 r.timeAfter ++ flag r.midnight
  | .allowance r => num 3 r.daily ++ num 4 r.usedToday ++ num 2 r.outstanding ++ num 1 r.count ++ num 3 r.remaining
  | .service f => num 1 (serviceCode f)
  | .assigned n => num 2 n
  | .decision o => decisionBytes o
  | .settled applied balance atLimit => num 4 applied ++ num 4 balance ++ flag atLimit
  | .periodClosed n => num 2 n
  | .trimmed r =>
    int 4 r.oldSet ++ int 4 r.oldRec ++ int 4 r.newSet ++ int 4 r.newRec ++ int 4 r.v0 ++ flag r.clamp6 ++
      flag r.clamp7
  | .discharged moved vSet => num 2 moved ++ int 4 vSet
  | .linkReset requests notices => num 1 requests ++ num 1 notices
  | .status r => statusBytes r
  | .visit r => visitBytes r
  | .queue r => queueBytes r
  | .bay r => bayBytes r
  | .water r => waterBytes r
  | .reading r => readingBytes r
  | .lane r => laneBytes r
  | .charges r =>
    counted entryBytes r.entries ++ num 1 r.places ++ num 1 r.inRing ++ num 1 r.aged ++ flag r.pendingSummary ++
      num 1 r.beyond
  | .confirmed removed headSeq entries aged => num 1 removed ++ seqBytes headSeq ++ num 1 entries ++ num 1 aged
  | .rewound headSeq entries => seqBytes headSeq ++ num 1 entries

/-! ## The envelope and its CRC (R198) -/

/-- One bit of the CRC with polynomial 0x1021. -/
def crcBit (c : BitVec 16) : BitVec 16 := if c.msb then (c <<< 1) ^^^ 0x1021#16 else c <<< 1

def crcByte (c : BitVec 16) (b : Byte) : BitVec 16 :=
  crcBit (crcBit (crcBit (crcBit (crcBit (crcBit (crcBit (crcBit (c ^^^ (b.setWidth 16 <<< 8)))))))))

def crc (l : List Byte) : BitVec 16 := l.foldl crcByte 0xFFFF#16

def crcBytes (l : List Byte) : List Byte := [byte ((crc l).toNat / 256), byte ((crc l).toNat % 256)]

/-- Start byte, length byte, kind, tag, body, CRC. -/
def envelope (kind tag : Byte) (body : List Byte) : List Byte :=
  let covered := byte (body.length + 2) :: kind :: tag :: body
  0xC3#8 :: (covered ++ crcBytes covered)

/-- The bytes of a frame on the line. -/
def Frame.bytes : Frame → List Byte
  | .reply r => envelope r.kind r.tag (byte (resultCode r.code) :: r.data.bytes)
  | .notice n => envelope n.kind 0 n.body

end Sys2Proof.Machine
end

