-- ==== Sys2Proof/Machine/Loop.lean ====
section
/-!
DEFINITION. The book of the loop, reclaim, discharge, and the lines of a bay (R160 to R168). What a booking brings at
other blocks (bay tests, grant passes, purge tests) stands where the booking is asked for.
-/

namespace Sys2Proof.Machine

open Sys2Proof

/-! ## The balance law (R160) -/

/-- V_lines. -/
def State.vLines (s : State) : Nat := s.lm.heldLine.toList.sum

def runDelivered (r : BayRunner) : Nat :=
  match r.plan with
  | some p => p.fresh + p.recycled
  | none => 0

/-- V_bays: the delivered water of the running phases. -/
def State.vBays (s : State) : Nat := (s.pr.toList.map runDelivered).sum

def State.leftSide (s : State) : Int := s.lm.vSet + s.lm.vRec + s.vLines + s.vBays

def Loop.rightSide (l : Loop) : Int := l.v0 + l.freshIn - l.discharged - l.carried - l.drained

/-! ## Reclaim (R164) -/

def State.reclaimOn (s : State) : Bool :=
  circulates s.mode && decide ((s.settings.lowMark : Int) < s.lm.vSet) && decide (s.lm.vRec < s.settings.highMark)

/-- The reclaim decision. -/
def State.decideReclaim (s : State) : State := s.modLoop fun l => { l with reclaim := s.reclaimOn }

/-! ## Day totals (R191) -/

def DayCounts.addDischarged (c : DayCounts) (n : Nat) : DayCounts := { c with discharged := satAdd max32 c.discharged n }

def State.countDischarged (s : State) (n : Nat) : State :=
  s.modCharges fun c => { c with totals := c.totals.addDischarged n }

def State.countPurge (s : State) : State :=
  s.modCharges fun c => { c with totals := { c.totals with purges := satAdd max32 c.totals.purges 1 } }

/-! ## Bookings -/

/-- The overflow comparison of the pit (R162, R163). -/
def State.overflow (s : State) (cause : OverflowCause) : State :=
  let cap : Int := s.settings.pitCapacity
  if s.lm.vSet ≤ cap then s
  else
    let excess := (s.lm.vSet - cap).toNat
    let s := s.modLoop fun l => { l with vSet := cap, discharged := l.discharged + excess }
    (s.countDischarged excess).notify (.overflow ⟨excess, cause, s.lm.vSet, s.settings.pitCapacity⟩)

/-- The carry-off of delivered water (R98, R162). -/
def State.carryOff (s : State) (delivered : Nat) : Nat := delivered * s.settings.carryOff / 1000

/-- The water of a phase end: carry-off, return, overflow (R162). V_bays falls as the plan becomes IDLE. -/
def State.phaseReturn (s : State) (b : Bay) (delivered : Nat) : State :=
  let carry := s.carryOff delivered
  let s := s.modLoop fun l => { l with carried := l.carried + carry, vSet := l.vSet + (delivered - carry : Nat) }
  (s.overflow (.phase b)).decideReclaim

/-- The litres a purge completion moves (R163). -/
def State.purgeLitres (s : State) : Nat :=
  if s.lm.vRec ≤ 0 then 0 else min s.settings.purgeVolume s.lm.vRec.toNat

/-- The transfer of a purge completion (R163). -/
def State.purgeTransfer (s : State) : State :=
  let moved := s.purgeLitres
  let s := s.modLoop fun l => { l with vRec := l.vRec - moved, vSet := l.vSet + moved }
  (s.overflow .purge).decideReclaim

/-- A counted fresh pulse (R161). -/
def State.bookFresh (s : State) : State := s.modLoop fun l => { l with freshIn := l.freshIn + 1 }

/-- A counted recycled pulse (R161, R164). -/
def State.bookRecycled (s : State) : State :=
  (s.modLoop fun l => { l with vRec := l.vRec - 1 }).decideReclaim

/-- V_rec or avail has risen from `before` (R164): the Supply Arbiter's tests follow. -/
def risen (before after : State) : List Task :=
  (if before.avail = 0 ∧ 0 < after.avail then [Task.grantPass] else []) ++
    (if before.lm.vRec < after.lm.vRec then [Task.purgeTest] else [])

/-- A reclaim pulse (R164). -/
def Work.reclaimPulse (w : Work) : Work :=
  if w.s.lm.reclaim then
    let s := (w.s.modLoop fun l => { l with vSet := l.vSet - 1, vRec := l.vRec + 1 }).decideReclaim
    { w with s := s }.after (risen w.s s)
  else w.upd (·.modLoop fun l => { l with strayReclaim := satAdd max16 l.strayReclaim 1 })

/-! ## Discharge and trim (R165, R166) -/

def State.dischargeLitres (s : State) (litres : Nat) : Nat := min litres s.lm.vSet.toNat

/-- The closing time of the discharge valve after so many litres more (R165). -/
def State.dischargeUntil (s : State) (moved : Nat) : Option Nat :=
  if moved = 0 then s.lm.discharge
  else some ((s.lm.discharge.getD s.now) + 1000 * ceilDiv moved 5)

def State.discharge (s : State) (litres : Nat) : State :=
  let moved := s.dischargeLitres litres
  let s := s.modLoop fun l =>
    { l with vSet := l.vSet - moved, discharged := l.discharged + moved, discharge := s.dischargeUntil moved }
  (s.countDischarged moved).decideReclaim

/-- What refuses a TRIM_LOOP (R166). -/
def State.trimBlocked (s : State) : Bool :=
  s.pr.toList.any (·.plan.isSome) || s.sa.purge.isSome || s.lm.refills.toList.any (·.isSome) ||
    s.lm.discharge.isSome || !(s.qs.readings.getCh .ch6).valid || !(s.qs.readings.getCh .ch7).valid

/-- The trim (R166). -/
def State.trim (s : State) : State :=
  let set : Int := max 0 (s.qs.readings.getCh .ch6).value
  let rec_ : Int := max 0 (s.qs.readings.getCh .ch7).value
  (s.modLoop fun l =>
    { l with
      vSet := set, vRec := rec_, v0 := set + rec_ + s.vLines, freshIn := 0, discharged := 0, carried := 0,
      drained := 0 }).decideReclaim

/-! ## Bay lines (R167, R168) -/

/-- The source of a refill of so many litres (R167). -/
def State.refillSource (s : State) (volume : Nat) : RefillSource :=
  if (volume : Int) ≤ s.lm.vRec - s.settings.reserveFloor then .recycled else .well

/-- The refill start: nothing is booked; the drain valve shuts (R167, R168). -/
def State.startRefill (s : State) (b : Bay) : State :=
  let volume := s.settings.lineVolume.get b
  s.modLoop fun l =>
    { l with
      refills := l.refills.set b (some ⟨s.refillSource volume, volume, s.due (ceilDiv volume 2)⟩)
      drainValve := l.drainValve.set b false }

/-- The booking of a completed refill, with the line-filled flag (R167). -/
def State.bookRefill (s : State) (b : Bay) (r : Refill) : State :=
  let s := s.modLoop fun l =>
    { l with
      vRec := if r.source = .recycled then l.vRec - r.volume else l.vRec
      freshIn := if r.source = .well then l.freshIn + r.volume else l.freshIn
      heldLine := l.heldLine.set b r.volume
      refills := l.refills.set b none }
  s.modBay b fun x => { x with lineFilled := true }

/-- The lines of a bay are drained (R168). -/
def State.drainLine (s : State) (b : Bay) : State :=
  let s := s.modLoop fun l =>
    { l with
      drained := l.drained + l.heldLine.get b
      heldLine := l.heldLine.set b 0
      drainValve := l.drainValve.set b true }
  s.modBay b fun x => { x with lineFilled := false }

end Sys2Proof.Machine
end

