-- ==== Sys2Proof/Machine/Sampler.lean ====
section
/-!
DEFINITION. The Quality Sampler: calibration and compensation, the converter, demands, staleness and the turbidity hold
(R108 to R122).
-/

namespace Sys2Proof.Machine

open Sys2Proof

/-! ## Readings -/

/-- The ceiling of a / b for b above 0. -/
def intCeil (a b : Int) : Int := -((-a) / b)

/-- The calibrated value of a code (R109). -/
def calibrate (lo hi : Int) (code : BitVec 10) : Int := lo + intCeil (code.toNat * (hi - lo)) 1023

def codeClamped (code : BitVec 10) : Bool := decide (code.toNat = 0) || decide (code.toNat = 1023)

/-- A temperature held to -10..50 (R110). -/
def holdTemp (t : Int) : Int := max (-10) (min 50 t)

/-- The compensation to 25 degrees (R110). -/
def compensate (ct t : Int) : Int := intCeil (ct * 1000) (1000 + 20 * (t - 25))

/-- The age of a valid reading in ms; none for an invalid one (R108). -/
def State.ageMs (s : State) (r : Reading) : Option Nat :=
  match r.valid, r.takenAt with
  | true, some t => some (s.now - t)
  | _, _ => none

/-- The reading is valid and its age is at most so many seconds. -/
def State.young (s : State) (r : Reading) (seconds : Nat) : Bool :=
  match s.ageMs r with
  | some a => decide (a ≤ 1000 * seconds)
  | none => false

/-- The reading that a completion of a channel makes (R109, R110). -/
def State.makeReading (s : State) (ch : Channel) (code : BitVec 10) : Reading :=
  let raw := calibrate (s.settings.calLo.getCh ch) (s.settings.calHi.getCh ch) code
  let old := s.qs.readings.getCh ch
  let ch2 := s.qs.readings.getCh .ch2
  let usable := s.young ch2 60
  let t := if usable then holdTemp ch2.value else 25
  match ch with
  | .ch0 => ⟨compensate raw t, code, some s.now, codeClamped code, true, t, usable⟩
  | _ => ⟨raw, code, some s.now, codeClamped code, true, old.tempUsed, old.compensated⟩

/-- STALE for planning (R116). -/
def State.stale (s : State) (ch : Channel) (r : Reading) : Bool :=
  !s.young r 60 || (decide (ch = .ch0) && !r.compensated)

/-- A channel is due (R112). -/
def State.channelDue (s : State) (ch : Channel) : Bool :=
  let r := s.qs.readings.getCh ch
  let aged := match s.ageMs r with
    | some a => decide (1000 * s.settings.probePeriod.getCh ch ≤ a)
    | none => true
  aged && !(decide (ch = .ch1) && s.qs.ch1Held)

/-! ## Demands (R113 to R115) -/

/-- The copy that a demand holds of a channel. -/
def Demand.copy (d : Demand) : Channel → Option Reading
  | .ch0 => d.c0
  | .ch1 => d.c1
  | .ch2 => d.c2
  | .ch3 => d.c3
  | .ch4 => d.c4
  | _ => none

/-- The five channels of a demand. -/
def demandChannels : List Channel := [.ch0, .ch1, .ch2, .ch3, .ch4]

/-- A demand waits on a channel: one of the five that no reading has satisfied. -/
def Demand.waits (d : Demand) (ch : Channel) : Bool := demandChannels.contains ch && (d.copy ch).isNone

/-- A reading satisfies the channel where the demand waits on it. -/
def Demand.satisfy (d : Demand) (ch : Channel) (r : Reading) : Demand :=
  match ch with
  | .ch0 => { d with c0 := d.c0.or (some r) }
  | .ch1 => { d with c1 := d.c1.or (some r) }
  | .ch2 => { d with c2 := d.c2.or (some r) }
  | .ch3 => { d with c3 := d.c3.or (some r) }
  | .ch4 => { d with c4 := d.c4.or (some r) }
  | _ => d

/-- The number of bays whose demands wait on a channel. -/
def Sampler.waiting (q : Sampler) (ch : Channel) : Nat :=
  (q.demands.toList.filter fun d => match d with
    | some d => d.waits ch
    | none => false).length

def State.usedReading (s : State) (ch : Channel) (r : Reading) : UsedReading := ⟨r.value, s.stale ch r, r.clamp⟩

/-- The readings that a complete demand hands on (R114). -/
def State.answerOf (s : State) (d : Demand) : Option ReadingsUsed :=
  match d.c0, d.c1, d.c2, d.c3, d.c4 with
  | some c0, some c1, some _, some c3, some c4 =>
    some ⟨s.usedReading .ch0 c0, s.usedReading .ch1 c1, s.usedReading .ch3 c3, s.usedReading .ch4 c4⟩
  | _, _, _, _, _ => none

/-- What a bay's demand, if complete, is answered with. -/
def State.bayAnswer (s : State) (b : Bay) : Option (Bay × ReadingsUsed) :=
  ((s.qs.demands.get b).bind s.answerOf).map fun u => (b, u)

/-- The complete demands, in ascending bay number (R123). -/
def State.answers (s : State) : List (Bay × ReadingsUsed) := Bay.all.filterMap s.bayAnswer

/-- A bay's demand leaves the sampler (R114, R115). -/
def State.dropDemand (s : State) (b : Bay) : State :=
  s.modSampler fun q => { q with demands := q.demands.set b none }

def State.dropAnswered (s : State) (l : List (Bay × ReadingsUsed)) : State :=
  l.foldl (fun s a => s.dropDemand a.1) s

/-- Every demand waiting on the channel is satisfied by the reading (R114). -/
def Sampler.satisfyAll (q : Sampler) (ch : Channel) (r : Reading) : Sampler :=
  let f := fun (d : Option Demand) => d.map (·.satisfy ch r)
  { q with demands := ⟨f q.demands.s1, f q.demands.s2, f q.demands.s3, f q.demands.s4, f q.demands.s5, f q.demands.s6⟩ }

/-- What the arrival of a demand finds of one channel (R113). -/
def State.atArrival (s : State) (ch : Channel) : Option Reading :=
  let r := s.qs.readings.getCh ch
  if decide (ch = .ch1) && s.qs.ch1Held then some r
  else if s.young r 20 && (decide (ch ≠ .ch0) || r.compensated) then some r
  else none

/-! ## The converter (R111, R112) -/

def State.startConversion (s : State) (ch : Channel) : State :=
  s.modSampler fun q => { q with converter := .converting ch (s.due (s.settings.probeSettle.getCh ch)) }

/-- The channel that a choice takes, or none (R112); CH1 is not taken while it is held (R117). -/
def State.chosenChannel (s : State) (afterDefault : Bool) : Option Channel :=
  if afterDefault && decide (0 < s.qs.waiting .ch0) then some .ch2
  else
    match [Channel.ch2, .ch0, .ch1, .ch3, .ch4].find? fun ch =>
        decide (0 < s.qs.waiting ch) && !(decide (ch = .ch1) && s.qs.ch1Held) with
    | some ch => some ch
    | none => Channel.all.find? s.channelDue

/-- The converter chooses what to convert next (R112). -/
def State.choose (s : State) (afterDefault : Bool) : State :=
  match s.chosenChannel afterDefault with
  | some ch => s.startConversion ch
  | none => s.modSampler fun q => { q with converter := .idle }

/-- An IDLE converter chooses at an event that may give it work (R112). -/
def State.chooseIfIdle (s : State) : State :=
  match s.qs.converter with
  | .idle => s.choose false
  | _ => s

/-- A phase hands the sampler its bay's demand (R113). -/
def Work.demand (w : Work) (b : Bay) : Work :=
  let s := w.s
  let d : Demand := ⟨s.atArrival .ch0, s.atArrival .ch1, s.atArrival .ch2, s.atArrival .ch3, s.atArrival .ch4⟩
  match s.answerOf d with
  | some u => w.after [.plans [(b, u)]]
  | none => w.upd fun s => (s.modSampler fun q => { q with demands := q.demands.set b (some d) }).chooseIfIdle

/-- A completion makes the reading of its channel and satisfies the demands waiting on it; a DEFAULT CH0 reading
satisfies none (R111, R114). -/
def Work.completeConversion (w : Work) (ch : Channel) (code : BitVec 10) : Work :=
  let r := w.s.makeReading ch code
  let isDefault := decide (ch = .ch0) && !r.compensated
  let s := w.s.modSampler fun q => { q with readings := q.readings.setCh ch r, converter := .choosing }
  let s := if isDefault then s else s.modSampler (·.satisfyAll ch r)
  let answered := s.answers
  { w with s := s.dropAnswered answered }.after
    ((if answered.isEmpty then [] else [Task.plans answered]) ++ (if ch = Channel.ch5 then [Task.ch5] else []) ++
      [Task.chooseNext isDefault])

/-! ## The turbidity hold (R117, R118) -/

/-- A CH1 conversion in flight is discarded at a purge start (R117). -/
def State.discardCh1 (s : State) : State :=
  match s.qs.converter with
  | .converting .ch1 _ => s.choose false
  | _ => s

/-- CH1 is held: its reading is no longer valid, and the demands waiting on it have it as it is (R117). -/
def State.holdCh1 (s : State) : State :=
  let r := { s.qs.readings.getCh .ch1 with valid := false }
  let s := s.modSampler fun q =>
    { q with readings := q.readings.setCh .ch1 r, ch1Held := true, holdTimer := none }
  (s.discardCh1).modSampler (·.satisfyAll .ch1 r)

/-- A purge has started (R117). -/
def Work.holdTurbidity (w : Work) : Work :=
  let s := w.s.holdCh1
  let answered := s.answers
  { w with s := s.dropAnswered answered }.after (if answered.isEmpty then [] else [Task.plans answered])

/-- The purge has completed: 30 s to the end of the hold (R118). -/
def State.startHoldTimer (s : State) : State := s.modSampler fun q => { q with holdTimer := some (s.due 30) }

/-- The hold ends (R118). -/
def State.endHold (s : State) : State :=
  (s.modSampler fun q => { q with ch1Held := false, holdTimer := none }).chooseIfIdle

end Sys2Proof.Machine
end

