-- ==== Sys2Proof/Machine/Blend.lean ====
section
/-!
DEFINITION. The Blend Unit: the eight stages of a plan (R123 to R131) and the reservation list (R133).
-/

namespace Sys2Proof.Machine

open Sys2Proof

/-- Stage 1: the limits of a plan and whether they are relaxed (R124). -/
def relaxed (a threshold : Nat) (r : PhaseRecord) : Bool := decide (a < threshold) && decide (100 < r.relax)

def limitOf (relax : Bool) (r : PhaseRecord) (limit : Nat) : Nat := if relax then limit * r.relax / 100 else limit

/-- Stage 2: the flags of the readings, the debt and the fresh water (R125). -/
def stageFlags (u : ReadingsUsed) (debt climit tlimit : Nat) (relax : Bool) : PhaseFlags where
  stale := u.cr.stale || u.tr.stale || u.cf.stale || u.tf.stale
  clamp := u.cr.clamp || u.tr.clamp || u.cf.clamp || u.tf.clamp
  fresh := decide ((climit : Int) < u.cf.value) || decide ((tlimit : Int) < u.tf.value)
  filter := decide (debt = 3)
  relax := relax
  lowRec := false
  short := false

/-- Stage 3: the fraction of one parameter (R127). -/
def fraction (limit : Nat) (xr xf : Int) : Nat :=
  if xr ≤ limit then 1000
  else if (limit : Int) ≤ xf then 0
  else (1000 * (limit - xf) / (xr - xf)).toNat

/-- Stage 4: the recorded fraction (R128). -/
def recordedFraction (u : ReadingsUsed) (r : PhaseRecord) (climit tlimit : Nat) (zero : Bool) : Nat :=
  if zero then 0
  else min (min (fraction climit u.cr.value u.cf.value) (fraction tlimit u.tr.value u.tf.value)) r.cap

/-- Stages 5 to 7: the figures with the flags LOWREC and SHORT (R128 to R130). -/
structure Split where
  figures : PlanFigures
  lowRec : Bool
  short : Bool
deriving DecidableEq, Repr

def splitVolume (v r avail a : Nat) : Split :=
  let vr0 := v * r / 1000
  let low := decide (avail < vr0)
  let vr := if low then avail else vr0
  let vf := v - vr
  if a < vf then
    let v' := v * a / vf
    if v' < 10 then ⟨⟨r, v', 0, 0⟩, low, true⟩ else ⟨⟨r, v', a, v' - a⟩, low, true⟩
  else ⟨⟨r, v, vf, vr⟩, low, false⟩

/-- What a plan comes to (R90, R123). -/
structure PlanResult where
  outcome : PlanOutcome
  action : FlagAction
  flags : PhaseFlags
  climit : Nat
  tlimit : Nat
  figures : Option PlanFigures
deriving DecidableEq, Repr

/-- The eight stages on the copied record, the readings, avail, A, the debt and the threshold (R123 to R131). -/
def planPhase (r : PhaseRecord) (u : ReadingsUsed) (avail a debt threshold : Nat) : PlanResult :=
  let rel := relaxed a threshold r
  let climit := limitOf rel r r.condLimit
  let tlimit := limitOf rel r r.turbLimit
  let flags := stageFlags u debt climit tlimit rel
  let action := chosenAction flags r
  match action with
  | .skip => ⟨.skipped, action, flags, climit, tlimit, none⟩
  | .abort => ⟨.aborted, action, flags, climit, tlimit, none⟩
  | _ =>
    let fr := recordedFraction u r climit tlimit (decide (action = .zero))
    let sp := splitVolume r.volume fr avail a
    let outcome := if sp.figures.volume < 10 then PlanOutcome.skipped else .plan
    ⟨outcome, action, { flags with lowRec := sp.lowRec, short := sp.short }, climit, tlimit, some sp.figures⟩

/-- The reservation of a bay's plan (R133). -/
def State.reserve (s : State) (b : Bay) (litres : Nat) : State :=
  { s with bu := { s.bu with reservations := s.bu.reservations.set b (some litres) } }

/-- A phase end hands the delivered fresh to the account and removes the bay's entry (R133). -/
def State.settleFresh (s : State) (b : Bay) (delivered : Nat) : State :=
  { s with bu := ⟨satAdd max32 s.bu.usedToday delivered, s.bu.reservations.set b none⟩ }

/-- Midnight: used today becomes 0 (R135). -/
def State.allowanceMidnight (s : State) : State := { s with bu := { s.bu with usedToday := 0 } }

end Sys2Proof.Machine
end

