-- ==== Sys2Proof/Machine/Sweep.lean ====
section
/-!
DEFINITION. The sweep order and the nozzle pulse-frame generator (R102 to R104).
-/

namespace Sys2Proof.Machine

open Sys2Proof

/-! ## The sweep order (R103) -/

/-- The segments a..b-1, empty where b is not above a. -/
def segmentRun (a b : Nat) : List Nat := List.range' a (b - a)

def sweepStart (r : PhaseRecord) (lv : Nat) : Nat := min r.startSegment (lv - 1)

def sweepOrder (r : PhaseRecord) (lv : Nat) : List Nat :=
  let s0 := sweepStart r lv
  let g := s0 / r.sweepGroup * r.sweepGroup
  let e := min (g + r.sweepGroup) lv
  match r.sweepMode with
  | .linear => segmentRun s0 lv ++ segmentRun 0 s0
  | .hybrid => segmentRun s0 e ++ segmentRun g s0 ++ segmentRun e lv ++ segmentRun 0 g
  | .wrap => segmentRun s0 e ++ segmentRun g s0

/-- The segment at a place of the order; the order repeats (R103). -/
def PhaseRun.segmentAt (p : PhaseRun) (pos : Nat) : Nat :=
  let order := sweepOrder p.record p.length
  order.getD (pos % order.length) 0

/-! ## The generator (R102) -/

/-- A time of so many tenths starts at `now`. -/
def tenthsFrom (now tenths : Nat) : Option Nat := some (now + 100 * tenths)

/-- At an entry to RUNNING: the delay begins at the first, and a frozen generator resumes with its kept time. -/
def PhaseRun.startNozzle (p : PhaseRun) (now : Nat) : PhaseRun :=
  match p.gen.state with
  | .idle =>
    if p.record.nozzleDelay = 0 then { p with gen := ⟨.on, 0, tenthsFrom now p.record.nozzleOn, 0⟩, sweepPos := 0 }
    else { p with gen := ⟨.delay, 0, tenthsFrom now p.record.nozzleDelay, 0⟩, sweepPos := 0 }
  | _ => { p with gen := { p.gen with due := some (now + p.gen.kept), kept := 0 } }

/-- At an entry to PAUSED: the output goes off and the time left is kept. -/
def PhaseRun.freezeNozzle (p : PhaseRun) (now : Nat) : PhaseRun :=
  match p.gen.due with
  | some t => { p with gen := { p.gen with due := none, kept := t - now } }
  | none => p

/-- A segment joins the set of segments covered, once (R104). -/
def cover (seg : Nat) (l : List Nat) : List Nat := if l.contains seg then l else l ++ [seg]

/-- The running time of a generator state has run out (R102, R104): a frame ends when its OFF time does. -/
def PhaseRun.nozzleMove (p : PhaseRun) (now : Nat) : PhaseRun :=
  match p.gen.state with
  | .idle => p
  | .delay => { p with gen := ⟨.on, 0, tenthsFrom now p.record.nozzleOn, 0⟩ }
  | .on => { p with gen := { p.gen with
      state := .off, due := tenthsFrom now (p.record.nozzleFrame - p.record.nozzleOn), kept := 0 } }
  | .off =>
    let done := p.gen.frames + 1
    if done < p.record.framesPerSegment then
      { p with gen := ⟨.on, done, tenthsFrom now p.record.nozzleOn, 0⟩ }
    else
      { p with
        gen := ⟨.on, 0, tenthsFrom now p.record.nozzleOn, 0⟩
        covered := cover (p.segmentAt p.sweepPos) p.covered
        sweepPos := (p.sweepPos + 1) % (sweepOrder p.record p.length).length }

/-- The nozzle output (R102): on in ON, while the phase runs. -/
def PhaseRun.nozzleOutput (p : PhaseRun) : Bool :=
  decide (p.gen.state = .on) && decide (p.stage = .running)

/-- The tenths left in the generator's state. -/
def PhaseRun.nozzleLeft (p : PhaseRun) (now : Nat) : Nat :=
  match p.gen.due with
  | some t => wholeTenths (t - now)
  | none => wholeTenths p.gen.kept

end Sys2Proof.Machine
end

