-- ==== Sys2Proof/Machine/Stages.lean ====
section
/-!
DEFINITION. The stages of a running phase, its valves and its times (R89 to R97).
-/

namespace Sys2Proof.Machine

open Sys2Proof

/-- Running time in ms (R94). -/
def PhaseRun.runningMs (p : PhaseRun) (now : Nat) : Nat :=
  p.runMs + (if p.stage = .running then now - p.since else 0)

/-- Paused time in ms (R96). -/
def PhaseRun.pausedMs (p : PhaseRun) (now : Nat) : Nat :=
  p.pauseMs + (if p.stage = .paused then now - p.since else 0)

/-- The stage is left: its time joins the running or the paused time. -/
def PhaseRun.bank (p : PhaseRun) (now : Nat) : PhaseRun :=
  { p with runMs := p.runningMs now, pauseMs := p.pausedMs now, since := now }

/-- Entry to RUNNING (R90, R91, R100): the nozzles start or resume. -/
def PhaseRun.run (p : PhaseRun) (now : Nat) : PhaseRun :=
  { p.bank now with stage := .running }.startNozzle now

/-- Entry to PAUSED (R90, R95): both valves shut, the nozzles freeze. -/
def PhaseRun.pause (p : PhaseRun) (now : Nat) : PhaseRun :=
  { p.bank now with stage := .paused, freshOpen := false, recycledOpen := false }.freezeNozzle now

def PhaseRun.plannedFresh (p : PhaseRun) : Nat :=
  match p.figures with
  | some f => f.fresh
  | none => 0

def PhaseRun.plannedRecycled (p : PhaseRun) : Nat :=
  match p.figures with
  | some f => f.recycled
  | none => 0

/-- Both targets are met (R93). -/
def PhaseRun.targetsMet (p : PhaseRun) : Bool :=
  decide (p.plannedFresh ≤ p.fresh) && decide (p.plannedRecycled ≤ p.recycled)

/-- The grant is in force (R91). -/
def PhaseRun.granted (p : PhaseRun) (now : Nat) (ch : Supply) : PhaseRun :=
  if p.stage = .paused ∧ p.requested then
    { p.run now with
      grant := some ch, requested := false, recycledOpen := true, freshOpen := decide (p.fresh < p.plannedFresh) }
  else p

/-- The grant is lost by a withdrawal or a timeout: the request stands again (R95). -/
def PhaseRun.lostGrant (p : PhaseRun) (now : Nat) : PhaseRun :=
  if p.grant.isSome then { p.pause now with grant := none, requested := true } else p

/-- The ms at which the running time reaches the time limit (R94). -/
def PhaseRun.limitAt (p : PhaseRun) : Nat := p.since + (1000 * p.record.timeLimit - p.runMs)

/-- The ms at which the paused time reaches the wait limit of 600 s (R96). -/
def PhaseRun.waitLimitAt (p : PhaseRun) : Nat := p.since + (600000 - p.pauseMs)

/-- The plan of a phase at its start (R89). -/
def PhaseRun.begin (visit number length now : Nat) (r : PhaseRecord) : PhaseRun where
  visit := visit
  number := number
  record := r
  length := length
  stage := .reading
  readings := none
  figures := none
  reserved := 0
  flags := ⟨false, false, false, false, false, false, false⟩
  fresh := 0
  recycled := 0
  timeouts := 0
  runMs := 0
  pauseMs := 0
  since := now
  covered := []
  grant := none
  requested := false
  freshOpen := false
  recycledOpen := false
  gen := ⟨.idle, 0, none, 0⟩
  sweepPos := 0

/-- The result of a phase (R99). -/
def PhaseRun.result (p : PhaseRun) (now : Nat) (cause : PhaseCause) (carry : Nat) : PhaseResult where
  number := p.number
  kind := p.record.kind
  volume := p.record.volume
  weight := p.record.weight
  timeLimit := p.record.timeLimit
  cause := cause
  figures := p.figures
  fresh := p.fresh
  recycled := p.recycled
  carryOff := carry
  readings := p.readings
  flags := p.flags
  running := wholeTenths (p.runningMs now)
  paused := wholeTenths (p.pausedMs now)
  timeouts := p.timeouts
  covered := p.covered.length

end Sys2Proof.Machine
end

