-- ==== Sys2Proof/Machine/Supply.lean ====
section
/-!
DEFINITION. The Supply Arbiter and Purge Scheduler: channels, grants, draws, purge debt, purges and the fixed-lead cycle
(R139 to R156).
-/

namespace Sys2Proof.Machine

open Sys2Proof

/-! ## Derived figures (R139) -/

def maskCount (m : Four Bool) : Nat := ([m.f1, m.f2, m.f3, m.f4].filter id).length

def Settings.spacing (t : Settings) : Nat := t.filterInterval / maskCount t.cartMask

def Settings.drawMax (t : Settings) : Nat := t.spacing / 2

/-- The cartridge after a cartridge in the order 1, 2, 3, 4, 1. -/
def cartAfter : Cart → Cart
  | .cart1 => .cart2
  | .cart2 => .cart3
  | .cart3 => .cart4
  | .cart4 => .cart1

/-- The first cartridge of the mask after the pointer (R148). -/
def nextCart (m : Four Bool) (pointer : Cart) : Cart :=
  let a := cartAfter pointer
  let b := cartAfter a
  let c := cartAfter b
  if m.get a then a else if m.get b then b else if m.get c then c else pointer

/-! ## Channels (R140) -/

/-- The bay that a busy channel serves. -/
def SupplyState.bay? : SupplyState → Option Bay
  | .starting b _ => some b
  | .granted b _ => some b
  | .drawing b _ _ => some b
  | _ => none

def SupplyState.busy (c : SupplyState) : Bool := c.bay?.isSome

def Supply.all : List Supply := [.supply1, .supply2]

def State.setChannel (s : State) (ch : Supply) (c : SupplyState) : State :=
  s.modArbiter fun a => { a with channels := a.channels.setChan ch c }

def State.channel (s : State) (ch : Supply) : SupplyState := s.sa.channels.chan ch

/-- The move to RUN_ON, or straight to IDLE with a run-on of 0 (R140). -/
def State.toRunOn (s : State) (ch : Supply) : State :=
  if s.settings.runOn = 0 then s.setChannel ch .idle else s.setChannel ch (.runOn (s.due s.settings.runOn))

/-- A channel leaves the busy states: a grant pass and a purge start test follow (R146). -/
def Work.freeChannel (w : Work) (ch : Supply) : Work := (w.upd (·.toRunOn ch)).after [.grantPass, .purgeTest]

def State.setRequest (s : State) (b : Bay) (x : Bool) : State :=
  s.modArbiter fun a => { a with requests := a.requests.set b x }

/-- The channel that serves a bay. -/
def State.serving (s : State) (b : Bay) : Option Supply :=
  Supply.all.find? fun ch => decide ((s.channel ch).bay? = some b)

/-- A phase asks for a draw (R141). -/
def Work.requestDraw (w : Work) (b : Bay) : Work :=
  match w.s.serving b with
  | some _ => w
  | none => (w.upd (·.setRequest b true)).after [.grantPass]

/-- A phase gives up its request or its grant (R141, R143, R144, R145). -/
def Work.leaveSupply (w : Work) (b : Bay) : Work :=
  let w := w.upd (·.setRequest b false)
  match w.s.serving b with
  | some ch => w.freeChannel ch
  | none => w

/-- The channel enters GRANTED and tells the phase (R144, R91). -/
def State.grant (s : State) (ch : Supply) (b : Bay) : State :=
  (s.setChannel ch (.granted b (s.due s.settings.grantTimeout))).modPlan b fun p => p.granted s.now ch

/-! ## The grant pass (R142) -/

/-- The conditions of a grant but a free channel and a request. -/
def State.grantsAllowed (s : State) : Bool :=
  washes s.mode && s.sa.purge.isNone && decide (0 < s.avail) &&
    !(decide (s.settings.leadMode = .variable) && decide (1 ≤ s.sa.debt)) &&
    !(decide (s.settings.leadMode = .fixed) && decide (s.sa.cycle = .slot))

def SupplyState.isRunOn : SupplyState → Bool
  | .runOn _ => true
  | _ => false

/-- The free channel that is chosen: RUN_ON before IDLE, channel 1 before channel 2. -/
def State.freeChoice (s : State) : Option Supply :=
  (Supply.all.find? fun ch => (s.channel ch).isRunOn).or (Supply.all.find? fun ch => decide (s.channel ch = .idle))

/-- The first bay of the priority order with a request standing. -/
def State.firstRequest (s : State) : Option Bay := s.sa.priority.find? fun b => s.sa.requests.get b

/-- The bay leaves the request set and moves to the end of the order (R141, R142). -/
def State.takeTurn (s : State) (b : Bay) : State :=
  s.modArbiter fun a =>
    { a with requests := a.requests.set b false, priority := a.priority.filter (fun c => decide (c ≠ b)) ++ [b] }

/-- A channel is allotted to a bay (R142, R143). -/
def State.allot (s : State) (ch : Supply) (b : Bay) : State :=
  let running := (s.channel ch).isRunOn
  let s := s.takeTurn b
  if running || decide (s.settings.startLead = 0) then s.grant ch b
  else s.setChannel ch (.starting b (s.due s.settings.startLead))

def State.grantOne (s : State) : State :=
  match s.grantsAllowed, s.freeChoice, s.firstRequest with
  | true, some ch, some b => s.allot ch b
  | _, _, _ => s

/-- A grant pass: at most two channels can be allotted (R142). -/
def Work.grantPass (w : Work) : Work := w.upd fun s => s.grantOne.grantOne

/-! ## Grants that end (R144, R145, R154) -/

/-- The bay's request rejoins the set as its channel lets it go (R141). -/
def State.rejoin (s : State) (ch : Supply) (b : Bay) : State := (s.setRequest b true).toRunOn ch

/-- A grant is withdrawn: the phase pauses and its request rejoins (R145, R154). -/
def State.withdrawGrant (s : State) (ch : Supply) (b : Bay) : State :=
  (s.modPlan b fun p => p.lostGrant s.now).rejoin ch b

/-- A draw is cut at Draw_max (R145). -/
def Work.cutDraw (w : Work) (ch : Supply) (b : Bay) : Work :=
  (w.upd (·.withdrawGrant ch b)).after [.grantPass, .purgeTest]

/-- The first counted recycled pulse of a grant starts the draw (R144, R145). -/
def State.firstPulse (s : State) (b : Bay) : State :=
  match s.serving b with
  | none => s
  | some ch =>
    match s.channel ch with
    | .granted _ _ => s.setChannel ch (.drawing b s.now (s.due s.settings.drawMax))
    | _ => s

/-- A window end on one channel (R154). -/
def State.endOfWindow (s : State) (ch : Supply) : State :=
  match s.channel ch with
  | .starting b _ => s.rejoin ch b
  | .granted b _ => s.withdrawGrant ch b
  | .drawing b _ _ => s.withdrawGrant ch b
  | _ => s

/-! ## Purges (R147 to R151) -/

/-- The conditions of a purge start but the lead mode (R149). -/
def State.purgeReady (s : State) : Bool :=
  decide (1 ≤ s.sa.debt) && !s.sa.channels.p1.busy && !s.sa.channels.p2.busy &&
    decide ((s.settings.purgeVolume : Int) ≤ s.lm.vRec) && washes s.mode && s.sa.purge.isNone

def State.putPurge (s : State) : State :=
  s.modArbiter fun a =>
    { a with purge := some ⟨nextCart s.settings.cartMask a.pointer, s.due s.settings.purgeDuration⟩ }

/-- The purge start (R149). -/
def Work.startPurge (w : Work) : Work := (w.upd (·.putPurge)).holdTurbidity

/-- The purge start test of VARIABLE lead mode (R149). -/
def Work.purgeTest (w : Work) : Work :=
  if w.s.settings.leadMode = .variable ∧ w.s.purgeReady then w.startPurge else w

/-- The purge completion (R151). -/
def Work.completePurge (w : Work) (cart : Cart) : Work :=
  let moved := w.s.purgeLitres
  let s := w.s.modArbiter fun a => { a with purge := none }
  let s := s.purgeTransfer
  let s := s.modArbiter fun a => { a with debt := a.debt - 1, pointer := cart }
  let s := s.startHoldTimer.countPurge
  let s := s.notify (.purge ⟨cart, moved, s.sa.debt, nextCart s.settings.cartMask cart, s.settings.leadMode,
    s.lm.vRec, s.lm.vSet⟩)
  { w with s := s }.after [.grantPass, .purgeTest]

/-- The purge timer starts with the spacing (R147). -/
def State.startPurgeTimer (s : State) : State :=
  s.modArbiter fun a => { a with purgeTimer := some (s.due s.settings.spacing) }

/-- The purge timer's expiry: the debt rises, unless it is 3, and a rise brings the purge start test (R147, R149). -/
def Work.purgeTimer (w : Work) : Work :=
  let rises := decide (w.s.sa.debt < 3)
  (w.upd fun s => (s.modArbiter fun a => { a with debt := min 3 (a.debt + 1) }).startPurgeTimer).after
    (if rises then [.purgeTest] else [])

/-! ## The fixed-lead cycle (R153, R154) -/

def State.startWindow (s : State) : State :=
  s.modArbiter fun a => { a with cycle := .window, cycleEnd := some (s.due s.settings.drawMax) }

/-- The end of a WINDOW and the start of the SLOT (R154). -/
def Work.endWindow (w : Work) : Work :=
  let w := w.upd fun s => (s.endOfWindow .supply1).endOfWindow .supply2
  let w := w.upd fun s =>
    s.modArbiter fun a => { a with cycle := .slot, cycleEnd := some (s.due s.settings.purgeDuration) }
  if w.s.purgeReady then w.startPurge else w

/-- The end of the SLOT and the next WINDOW (R154). -/
def Work.endSlot (w : Work) : Work := (w.upd (·.startWindow)).after [.grantPass]

/-- A SET_DEPOT changes the lead mode (R155). -/
def Work.leadChange (w : Work) (old new : LeadMode) : Work :=
  match old, new with
  | .variable, .fixed => w.upd (·.startWindow)
  | .fixed, .variable =>
    w.upd fun s => s.modArbiter fun a => { a with cycle := .window, cycleEnd := none }
  | _, _ => w

/-- A SET_DEPOT's Draw_max acts on a draw in progress (R145). -/
def Work.resetCut (w : Work) (ch : Supply) : Work :=
  match w.s.channel ch with
  | .drawing b start _ =>
    let cut := start + 1000 * w.s.settings.drawMax
    if cut ≤ w.s.now then w.cutDraw ch b else w.upd (·.setChannel ch (.drawing b start cut))
  | _ => w

/-! ## The depot mode (R147, R156) -/

/-- The Supply Arbiter is told of a mode. -/
def Work.supplyMode (w : Work) (new : DepotMode) : Work :=
  let w := w.upd fun s =>
    if circulates new then (if s.sa.purgeTimer.isSome then s else s.startPurgeTimer)
    else s.modArbiter fun a => { a with purgeTimer := none }
  if washes new then w.after [.grantPass, .purgeTest] else w

end Sys2Proof.Machine
end

