-- ==== Sys2Proof/Machine/Axle.lean ====
section
/-!
DEFINITION. The treadles and the axle counter of a lane (R21 to R25).
-/

namespace Sys2Proof.Machine

open Sys2Proof

/-- What a taken treadle change completes. -/
inductive Passage
  | none | forward | reverse
deriving DecidableEq, Repr

/-- NONE: a treadle going on while the other is off begins a passage in its direction (R23, R24). -/
def beginPassage (t : Treadle) (on other : Bool) : CounterState :=
  match t, on, other with
  | .a, true, false => .passage .onA .forward
  | .b, true, false => .passage .onB .reverse
  | _, _, _ => .none

/-- The counter in OVERLAP mode (R23). -/
def overlapMove (c : CounterState) (t : Treadle) (on other : Bool) : CounterState × Passage :=
  match c, t, on with
  | .none, t, on => (beginPassage t on other, .none)
  | .passage .onA .forward, .b, true => (.passage .onAB .forward, .none)
  | .passage .onAB .forward, .a, false => (.passage .onB .forward, .none)
  | .passage .onB .forward, .b, false => (.none, .forward)
  | .passage .onB .reverse, .a, true => (.passage .onAB .reverse, .none)
  | .passage .onAB .reverse, .b, false => (.passage .onA .reverse, .none)
  | .passage .onA .reverse, .a, false => (.none, .reverse)
  | _, _, _ => (.none, .none)

/-- The counter in SPACED mode (R24). -/
def spacedMove (c : CounterState) (t : Treadle) (on other : Bool) : CounterState × Passage :=
  match c, t, on with
  | .none, t, on => (beginPassage t on other, .none)
  | .passage .onA .forward, .a, false => (.passage .gap .forward, .none)
  | .passage .gap .forward, .b, true => (.passage .onB .forward, .none)
  | .passage .onB .forward, .b, false => (.none, .forward)
  | .passage .onB .reverse, .b, false => (.passage .gap .reverse, .none)
  | .passage .gap .reverse, .a, true => (.passage .onA .reverse, .none)
  | .passage .onA .reverse, .a, false => (.none, .reverse)
  | _, _, _ => (.none, .none)

def counterMove (m : AxleMode) (c : CounterState) (t : Treadle) (on other : Bool) : CounterState × Passage :=
  match m with
  | .overlap => overlapMove c t on other
  | .spaced => spacedMove c t on other

/-- A passage changes the count and the flags (R25). -/
def LaneRecord.countPassage (l : LaneRecord) (p : Passage) : LaneRecord :=
  match p with
  | .none => l
  | .forward => if l.count < 15 then { l with count := l.count + 1 } else { l with axleSat := true }
  | .reverse => { l with count := l.count - 1, reverse := true }

def LaneRecord.treadle (l : LaneRecord) : Treadle → TreadleState
  | .a => l.treadleA
  | .b => l.treadleB

def LaneRecord.setTreadle (l : LaneRecord) (t : Treadle) (x : TreadleState) : LaneRecord :=
  match t with
  | .a => { l with treadleA := x }
  | .b => { l with treadleB := x }

def otherTreadle : Treadle → Treadle
  | .a => .b
  | .b => .a

/-- A treadle's raw level changes: the debounce window is begun, goes on, or is dropped (R21). -/
def TreadleState.rawChange (x : TreadleState) (on : Bool) (expiry : Nat) : TreadleState :=
  if on = x.raw then x
  else if on = x.taken then { x with raw := on, window := none }
  else { x with raw := on, window := some expiry }

/-- The taken level becomes the raw level and the change goes to the axle counter (R21, R25). -/
def LaneRecord.take (l : LaneRecord) (m : AxleMode) (t : Treadle) : LaneRecord :=
  let x := l.treadle t
  let moved := counterMove m l.counter t x.raw (l.treadle (otherTreadle t)).taken
  ({ l.setTreadle t ⟨x.raw, x.raw, none⟩ with counter := moved.1 }).countPassage moved.2

end Sys2Proof.Machine
end

