-- ==== Sys2Proof/Machine/Gate.lean ====
section
/-!
DEFINITION. The Gate Unit: lane states, the admission decision, the latch (R25 to R42). The creation of a visit is here
with the admission that makes it (R40); ASSIGN_BAY makes its visit by the same operation (R58).
-/

namespace Sys2Proof.Machine

open Sys2Proof

/-! ## Making a visit (R40, R46, R58) -/

/-- The number after `n` in issuing order: 65535 is followed by 1 (R46). -/
def nextNumber (n : Nat) : Nat := if n < 65535 then n + 1 else 1

/-- The first number after `n` that no visit in the table holds, within so many candidates (R46). -/
def freeNumber (t : Table Visit) (fuel n : Nat) : Nat :=
  match fuel with
  | 0 => nextNumber n
  | fuel + 1 => if Table.has t (nextNumber n) then freeNumber t fuel (nextNumber n) else nextNumber n

def State.newNumber (s : State) : Nat := freeNumber s.vq.visits 33 s.vq.lastNumber

def noPhaseFlags : PhaseFlags := ⟨false, false, false, false, false, false, false⟩

def noOtherFlags : OtherFlags := ⟨false, false, false, false, false⟩

/-- A visit as it is created (R40, R58). -/
def State.freshVisit (s : State) (lane : VisitLane) (tags : List TagNo) (account : Option Nat) (cls : Cls)
    (programme : Prog) (permit : Bool) (state : VisitState) (bay : Option Bay) (other : OtherFlags) : Visit where
  lane := lane
  day := s.clock.day
  time := s.clock.time
  tags := tags
  account := account
  cls := cls
  axles := none
  programme := programme
  permit := permit
  noShow := 0
  state := state
  bay := bay
  endCause := none
  results := []
  quality := noPhaseFlags
  other := other
  posted := none

/-- The visit enters the table under its number, and the Charge Unit takes its reservation (R40, R47, R58). -/
def State.enrol (s : State) (n : Nat) (v : Visit) : State :=
  { s with
    vq := { s.vq with visits := Table.put s.vq.visits n v, lastNumber := n }
    cu := { s.cu with reservations := s.cu.reservations + 1 } }

/-! ## Moves of a lane -/

/-- The lane is cleared (R28): counter, treadles and beams are kept; the barrier pulse stops too (log 22). -/
def LaneRecord.cleared (l : LaneRecord) : LaneRecord :=
  { l with
    state := .idle, count := 0, tags := [], key := none, axleSat := false, reverse := false, tagOver := false,
    stall := none, wait := none, barrierPulse := none }

def State.clearLane (s : State) (l : Lane) : State := s.modLane l LaneRecord.cleared

/-- The stall timer starts, or starts again (R30). -/
def State.startStall (s : State) (l : Lane) : State :=
  s.modLane l fun r => { r with stall := some (s.due s.settings.laneStall) }

/-- Entry to OCCUPIED (R28, R31). -/
def State.occupy (s : State) (l : Lane) : State :=
  (s.modLane l fun r => { r with state := .occupied, wait := none }).startStall l

/-! ## Identity (R37) -/

structure Identity where
  account : Option Nat
  cls : Cls
  mixed : Bool
deriving DecidableEq, Repr

def State.knownTags (s : State) (tags : List TagNo) : List TagRecord := tags.filterMap (Table.look s.dt.tags)

def State.identity (s : State) (tags : List TagNo) : Identity :=
  let known := s.knownTags tags
  let powered := known.find? (fun t => decide (t.role = .powered))
  let trailer := known.find? (fun t => decide (t.role = .trailer))
  let holder := powered.or trailer
  { account := holder.map (·.account)
    cls := ((trailer.or powered).map (·.cls)).getD s.settings.casualClass
    mixed := known.any fun t => known.any fun u => decide (t.account ≠ u.account) }

/-! ## The admission decision (R36) -/

def State.tagHeld (s : State) (tag : TagNo) : Bool := s.vq.visits.any fun v => v.2.tags.contains tag

def State.classLength (s : State) (c : Cls) : Nat := (s.dt.classes.getCls c).length

/-- Check 6: some bay in service takes the class's length (R38). -/
def State.bayTakes (s : State) (c : Cls) : Bool :=
  Bay.all.any fun b => decide ((s.bc.get b).service = .inService) && decide (s.classLength c ≤ s.settings.maxSegments.get b)

/-- Check 7 fails: table, queue or ring short of capacity (R39). -/
def State.short (s : State) : Bool :=
  decide (32 ≤ s.vq.visits.length) || decide (24 ≤ s.vq.queue.length) || decide (61 < s.places)

def State.accountBlocked (s : State) (a : Option Nat) : Bool :=
  match a.bind s.account? with
  | some r => decide (r.status = .blocked)
  | none => false

/-- Check 5 fails for a casual vehicle (R38). -/
def State.casualRefused (s : State) : Bool := !s.settings.casualAdmission || decide (0 < s.agedCount)

/-- The first check that fails of checks 1 and 3 to 6; an override skips 3 to 5 (R36, R41). -/
def State.refusal (s : State) (tags : List TagNo) (i : Identity) (override : Bool) : Option RefuseReason :=
  if s.mode ≠ .opened then some .closed
  else if !override && tags.any s.tagHeld then some .duplicate
  else if !override && s.accountBlocked i.account then some .blocked
  else if !override && i.account.isNone && s.casualRefused then some .unknown
  else if !s.bayTakes i.cls then some .noBay
  else none

/-- The tariff of an account, or tariff 0 for a casual vehicle (R11). -/
def State.tariffOf (s : State) (a : Option Nat) : Tariff :=
  let number := match a.bind s.account? with
    | some r => r.tariff
    | none => Trf.tariff0
  (s.dt.tariffs.getTrf number).getD coldTariff0

/-- The programme of an admission (R40). -/
def State.chooseProgramme (s : State) (a : Option Nat) (key : Option Prog) : Prog :=
  let fallback := match a.bind s.account? with
    | some r => r.programme
    | none => Prog.prog1
  match key with
  | some k => if (s.tariffOf a).allowed.get k then k else fallback
  | none => fallback

/-- The permit of a new visit: casual, or its account at limit (R40, R58). -/
def State.permitFor (s : State) (a : Option Nat) : Bool :=
  match a with
  | none => true
  | some n => match s.account? n with
    | some r => r.atLimit
    | none => false

/-- A refusal moves the lane to REFUSED and starts its stall timer (R30, R36). -/
def State.refuse (s : State) (l : Lane) (reason : RefuseReason) (override : Bool) : State :=
  let r := s.gu.get l
  let i := s.identity r.tags
  ((s.modLane l fun r => { r with state := .refused reason, wait := none }).startStall l).notify
    (.refused ⟨l, reason, r.tags, i.account, i.cls, override⟩)

/-- A lane failing check 7 enters WAITING, or stays there with its times (R31, R41). -/
def State.holdWaiting (s : State) (l : Lane) (override : Bool) : State :=
  match (s.gu.get l).state with
  | .waiting _ _ => s
  | _ => s.modLane l fun r =>
      { r with state := .waiting s.now override, stall := none, wait := some (s.due 300) }

/-- The admission (R40, R32). -/
def State.admission (s : State) (l : Lane) (i : Identity) (override : Bool) : State :=
  let r := s.gu.get l
  let n := s.newNumber
  let tags := if override then r.tags.filter fun t => !s.tagHeld t else r.tags
  let programme := s.chooseProgramme i.account r.key
  let permit := s.permitFor i.account
  let other := { noOtherFlags with tagOver := r.tagOver, mixed := i.mixed }
  let v := s.freshVisit (.lane l) tags i.account i.cls programme permit .queued none other
  let s := s.enrol n v
  let s := { s with vq := { s.vq with queue := s.vq.queue ++ [n] } }
  let s := s.modLane l fun r =>
    { r with state := .admitted n false, stall := none, wait := none, barrierPulse := some (s.due 1) }
  s.notify (.admitted ⟨l, n, i.account, i.cls, programme, permit, tags.length, r.tagOver, i.mixed, override⟩)

/-- The admission decision of a lane (R36). -/
def Work.decideLane (w : Work) (l : Lane) (override : Bool) : Work × Outcome :=
  let tags := (w.s.gu.get l).tags
  let i := w.s.identity tags
  match w.s.refusal tags i override with
  | some reason => (w.upd (·.refuse l reason override), .refused reason)
  | none =>
    if w.s.short then (w.upd (·.holdWaiting l override), .waiting)
    else ((w.upd (·.admission l i override)).after [.matchPass], .admitted w.s.newNumber)

def Work.redecide (w : Work) (l : Lane) (override : Bool) : Work := (w.decideLane l override).1

/-- A retry of a lane that is still WAITING (R39). -/
def Work.retry (w : Work) (l : Lane) : Work :=
  match (w.s.gu.get l).state with
  | .waiting _ mark => w.redecide l mark
  | _ => w

/-- The waiting lanes, earliest first, lane 1 first where the times are equal (R39). -/
def State.waitingLanes (s : State) : List Lane :=
  match s.gu.p1.state, s.gu.p2.state with
  | .waiting a _, .waiting b _ => if b < a then [.lane2, .lane1] else [.lane1, .lane2]
  | .waiting _ _, _ => [.lane1]
  | _, .waiting _ _ => [.lane2]
  | _, _ => []

/-- A capacity event: the waiting lanes retry (R39). -/
def Work.capacity (w : Work) : Work := w.after (w.s.waitingLanes.map .retry)

/-! ## Lane events -/

/-- The lane leaves IDLE; with the stop beam active the decision is taken at the entry (R28, R29). -/
def Work.arrive (w : Work) (l : Lane) : Work :=
  let w := w.upd (·.occupy l)
  if (w.s.gu.get l).stopBeam then w.redecide l false else w

/-- REFUSED with the stop beam inactive and the count 0: the lane is cleared (R35). -/
def State.testRefused (s : State) (l : Lane) : State :=
  let r := s.gu.get l
  if !r.stopBeam && decide (r.count = 0) then s.clearLane l else s

/-- A taken treadle change, its count already made (R28 to R35). -/
def Work.treadleEvent (w : Work) (l : Lane) : Work :=
  match (w.s.gu.get l).state with
  | .idle => w.arrive l
  | .occupied => w.upd (·.startStall l)
  | .refused _ => w.upd fun s => (s.startStall l).testRefused l
  | _ => w

/-- A change of the stop beam, its level already kept (R28, R29, R31, R35). -/
def Work.stopBeamEvent (w : Work) (l : Lane) (active : Bool) : Work :=
  match (w.s.gu.get l).state with
  | .idle => if active then w.arrive l else w
  | .occupied => if active then w.redecide l false else w.upd (·.startStall l)
  | .waiting _ _ => if active then w else w.upd (·.occupy l)
  | .refused _ => w.upd fun s => (s.startStall l).testRefused l
  | .admitted _ _ => w

/-- The tag joins the list, or is ignored, or sets TAG_OVER (R26). -/
def LaneRecord.addTag (r : LaneRecord) (n : TagNo) : LaneRecord :=
  if r.tags.contains n then r
  else if r.tags.length < 4 then { r with tags := r.tags ++ [n] }
  else { r with tagOver := true }

/-- A tag-read record of a number other than 0 (R22, R26, R28, R30). -/
def Work.tagEvent (w : Work) (l : Lane) (n : TagNo) : Work :=
  let add := fun (s : State) => s.modLane l (·.addTag n)
  match (w.s.gu.get l).state with
  | .idle => (w.upd add).arrive l
  | .occupied => w.upd fun s => (add s).startStall l
  | .refused _ => w.upd fun s => (add s).startStall l
  | .waiting _ _ => w.upd add
  | .admitted _ _ => w

/-- A programme key (R27, R30). -/
def Work.keyEvent (w : Work) (l : Lane) (k : Prog) : Work :=
  let put := fun (s : State) => s.modLane l fun r => { r with key := some k }
  match (w.s.gu.get l).state with
  | .occupied => w.upd fun s => (put s).startStall l
  | .refused _ => w.upd fun s => (put s).startStall l
  | .waiting _ _ => w.upd put
  | _ => w

/-! ## The latch (R32, R33) -/

/-- The visit is priced: its write is in progress, or its entry is posted (R180). -/
def State.priced (s : State) (n : Nat) : Bool :=
  match s.cu.writing, s.cu.posting with
  | some (.visit _), .visit m :: _ => decide (m = n)
  | _, _ => false

/-- The latch writes the count and the flags into a visit that is neither posted nor priced (R32). -/
def State.latchInto (s : State) (l : Lane) (n : Nat) : State :=
  let r := s.gu.get l
  s.modVisit n fun v =>
    if v.posted.isSome || s.priced n then v
    else { v with
      axles := some r.count
      other := { v.other with axleSat := v.other.axleSat || r.axleSat, reverse := v.other.reverse || r.reverse } }

/-- The latch, and the lane cleared. -/
def State.latch (s : State) (l : Lane) (n : Nat) : State := (s.latchInto l n).clearLane l

/-- A change of the clear beam, its level already kept (R32). -/
def State.clearBeamEvent (s : State) (l : Lane) (active : Bool) : State :=
  match (s.gu.get l).state with
  | .admitted n seen =>
    if active then s.modLane l fun r => { r with state := .admitted n true }
    else if seen then s.latch l n
    else s
  | _ => s

def State.latchIfAdmitted (s : State) (n : Nat) (l : Lane) : State :=
  match (s.gu.get l).state with
  | .admitted m _ => if m = n then s.latch l n else s
  | _ => s

/-- The visit has reached IN_BAY: its lane is latched and cleared (R33). -/
def State.laneSeated (s : State) (n : Nat) : State := (s.latchIfAdmitted n .lane1).latchIfAdmitted n .lane2

def State.clearIfAdmitted (s : State) (n : Nat) (l : Lane) : State :=
  match (s.gu.get l).state with
  | .admitted m _ => if m = n then s.clearLane l else s
  | _ => s

/-- The visit has left the table: its lane is cleared without a latch (R33). -/
def State.laneLost (s : State) (n : Nat) : State := (s.clearIfAdmitted n .lane1).clearIfAdmitted n .lane2

/-! ## Mode changes (R34) -/

/-- What a lane does at a change of mode: a WAITING lane when the mode leaves OPEN, a lane REFUSED CLOSED when it
becomes OPEN. -/
def Work.laneMode (w : Work) (old new : DepotMode) (l : Lane) : Work :=
  match (w.s.gu.get l).state with
  | .waiting _ mark => if old = .opened ∧ new ≠ .opened then w.redecide l mark else w
  | .refused .closed => if old ≠ .opened ∧ new = .opened then w.redecide l false else w
  | _ => w

def Work.gateMode (w : Work) (old new : DepotMode) : Work := (w.laneMode old new .lane1).laneMode old new .lane2

end Sys2Proof.Machine
end

