-- ==== Sys2Proof/Machine/Pricing.lean ====
section
/-!
DEFINITION. The price of a visit (R181 to R183).
-/

namespace Sys2Proof.Machine

open Sys2Proof

/-- The credit of one phase result on base `b` (R182); times in tenths. -/
def phaseCredit (b : Nat) (p : PhaseResult) : Nat :=
  match p.kind with
  | .wet =>
    if p.cause = .skipped then b * p.weight / 100
    else if p.fresh + p.recycled < p.volume then
      b * p.weight * (p.volume - (p.fresh + p.recycled)) / (100 * p.volume)
    else 0
  | .dry =>
    if p.running < p.timeLimit * 10 then
      b * p.weight * (10 * p.timeLimit - p.running) / (100 * 10 * p.timeLimit)
    else 0

/-- The credit of a visit: a wash with no results is credited whole (R182). -/
def visitCredit (b x w : Nat) (results : List PhaseResult) : Nat :=
  if results.isEmpty then b + x + w else (results.map (phaseCredit b)).sum

/-- The discount of the highest tier whose threshold is at or below the period visits (R183). -/
def tierDiscount (t : Tariff) (visits : Nat) : Nat :=
  if t.tier3.threshold ≤ visits then t.tier3.discount
  else if t.tier2.threshold ≤ visits then t.tier2.discount
  else if t.tier1.threshold ≤ visits then t.tier1.discount
  else 0

def washFresh (v : Visit) : Nat := (v.results.map (·.fresh)).sum

def washRecycled (v : Visit) : Nat := (v.results.map (·.recycled)).sum

/-- The price of a visit on the tables as they stand (R181 to R183). -/
def State.price (s : State) (v : Visit) : Price :=
  let tariff := s.tariffOf v.account
  let c := s.dt.classes.getCls v.cls
  let included := match s.dt.programmes.get v.programme with
    | some p => p.includedFresh
    | none => 0
  let axles := v.axles.getD c.axles
  let fresh := washFresh v
  let base := roundDiv (tariff.prices.get v.programme * c.factor) 100
  let x := tariff.axleRate * (axles - c.axles)
  let w := tariff.freshRate * ceilDiv (fresh - included) 100
  let credit := visitCredit base x w v.results
  let sub := base + x + w - credit
  let d := match v.account.bind s.account? with
    | some a => tierDiscount tariff a.periodVisits
    | none => 0
  let discount := roundDiv (sub * d) 100
  { axlesUsed := axles, fresh := fresh, recycled := washRecycled v, base := base, axleCharge := x, waterCharge := w,
    credit := credit, discount := discount, net := sub - discount }

end Sys2Proof.Machine
end

