-- ==== Sys2Proof/Machine/Charges.lean ====
section
/-!
DEFINITION. The Charge Unit: the ring, posting and writes, collection, ageing, the charge day and the accounts (R178 to
R195). What a visit's entry brings at its bay stands in Bays.lean.
-/

namespace Sys2Proof.Machine

open Sys2Proof

/-! ## Sequence numbers (R178) -/

def State.headSeq (s : State) : Seq :=
  match s.cu.ring.entries with
  | e :: _ => e.seq
  | [] => s.cu.nextSeq

/-- How far a sequence number lies from another, counting forward in wrapping order. -/
def seqFrom (head s : Seq) : Nat := (s - head).toNat

/-- An entry joins at the tail with the next sequence number; its held time starts at 0 (R178, R184). -/
def State.placeEntry (s : State) (body : EntryBody) : State :=
  s.modCharges fun c =>
    { c with
      ring := { c.ring with entries := c.ring.entries ++ [⟨c.nextSeq, body, false, 0, s.now⟩] }
      nextSeq := c.nextSeq + 1 }

/-! ## Writes (R180) -/

/-- A write starts: of a visit with its pricing, which sets AXLE_ASSUMED where the axles are absent (R180, R181). -/
def State.startWrite (s : State) : State :=
  match s.cu.writing, s.cu.posting with
  | none, .visit n :: _ =>
    match s.visit? n with
    | some v =>
      let p := s.price v
      let s := s.modVisit n fun v =>
        if v.axles.isNone then { v with other := { v.other with axleAssumed := true } } else v
      s.modCharges fun c => { c with writing := some (.visit p) }
    | none => s
  | none, .summary _ :: _ => s.modCharges fun c => { c with writing := some .summary }
  | _, _ => s

/-- The head of the posting list leaves it at its write completion. -/
def State.leavePosting (s : State) : State :=
  s.modCharges fun c => { c with posting := c.posting.tail, writing := none }

/-- The count of a visit's results that ended COMPLETE. -/
def completedPhases (v : Visit) : Nat := (v.results.filter fun r => decide (r.cause = .complete)).length

/-- A bay in FINISHING hands its visit over (R59, R180). -/
def State.handOver (s : State) (n : Nat) : State :=
  let s := s.modCharges fun c => { c with posting := c.posting ++ [.visit n] }
  let s := s.modVisit n fun v => { v with state := .finished }
  let s := match s.visit? n with
    | some v => s.notify (.visitDone ⟨n, v.bay, v.endCause, v.results.length, completedPhases v, v.quality, v.other⟩)
    | none => s
  s.startWrite

/-- The fields of a VISIT entry (R184). -/
def State.visitEntry (s : State) (n : Nat) (v : Visit) (p : Price) : VisitEntry where
  visit := n
  account := v.account
  tags := v.tags
  cls := v.cls
  programme := v.programme
  phasesRun := v.results.length
  phasesCompleted := completedPhases v
  price := p
  quality := v.quality
  other := v.other
  endCause := v.endCause
  day := s.clock.day
  time := s.clock.time

/-- A posted net joins the account (R184 step 3). -/
def Account.charge (a : Account) (net : Nat) : Account :=
  { a with
    periodVisits := satAdd max16 a.periodVisits 1
    balance := satAdd max32 a.balance net
    balSat := a.balSat || decide (max32 < a.balance + net) }

def State.chargeAccount (s : State) (account : Option Nat) (net : Nat) : State :=
  match account with
  | none => s
  | some n => s.modTables fun t => { t with accounts := Table.upd t.accounts n (·.charge net) }

/-- A posted visit joins the day totals (R191). -/
def DayCounts.addVisit (c : DayCounts) (p : Price) : DayCounts :=
  { c with
    visits := satAdd max32 c.visits 1
    net := satAdd max32 c.net p.net
    fresh := satAdd max32 c.fresh p.fresh
    recycled := satAdd max32 c.recycled p.recycled }

/-- The release answer (R185). -/
def State.releaseAnswer (s : State) (v : Visit) : ReleaseAnswer :=
  let limit := match v.account.bind s.account? with
    | some a => a.atLimit
    | none => false
  if v.permit || limit then .permit else .free

/-- Steps 1 to 5 of a visit's write completion (R184). -/
def State.postVisit (s : State) (n : Nat) (v : Visit) (p : Price) : State :=
  let seq := s.cu.nextSeq
  let s := s.placeEntry (.visit (s.visitEntry n v p))
  let s := s.modCharges fun c => { c with reservations := c.reservations - 1 }
  let s := s.modVisit n fun v => { v with posted := some seq }
  let s := s.chargeAccount v.account p.net
  (s.modCharges fun c => { c with totals := c.totals.addVisit p }).leavePosting

/-! ## The charge day (R191 to R193) -/

def DayCounts.add (a b : DayCounts) : DayCounts :=
  ⟨satAdd max32 a.visits b.visits, satAdd max32 a.net b.net, satAdd max32 a.fresh b.fresh,
    satAdd max32 a.recycled b.recycled, satAdd max32 a.discharged b.discharged, satAdd max32 a.purges b.purges⟩

def PostItem.isSummary : PostItem → Bool
  | .summary _ => true
  | _ => false

/-- A summary may join the posting list: none is in it, and at most 62 places are in use (R192, R193). -/
def State.summaryMayJoin (s : State) : Bool :=
  !s.cu.posting.any (·.isSummary) && decide (s.places ≤ 62)

def State.joinSummary (s : State) (x : Summary) : State :=
  (s.modCharges fun c => { c with posting := c.posting ++ [.summary x], pendingSummary := none }).startWrite

/-- The pending summary is tested (R193). -/
def State.testPending (s : State) : State :=
  match s.cu.pendingSummary with
  | some x => if s.summaryMayJoin then s.joinSummary x else s
  | none => s

/-- The day after a day: 65535 is followed by 0 (R192, R207). -/
def dayAfter (d : Nat) : Nat := if d < 65535 then d + 1 else 0

/-- The summary that a close forms (R192 step 1). -/
def State.closingSummary (s : State) (ended : Nat) : Summary :=
  match s.cu.pendingSummary with
  | some x => ⟨x.first, ended, x.counts.add s.cu.totals⟩
  | none => ⟨s.cu.firstDay, ended, s.cu.totals⟩

/-- The charge day closes (R192). -/
def State.closeDay (s : State) (ended : Nat) : State :=
  let x := s.closingSummary ended
  let s := s.modCharges fun c => { c with firstDay := dayAfter ended, totals := noCounts, pendingSummary := some x }
  let joins := s.summaryMayJoin
  let s := if joins then s.joinSummary x else s
  s.notify (.dayClosed ⟨ended, x.first, x.last, joins, s.places⟩)

/-- The write completion of a summary (R192, R193). -/
def State.postSummary (s : State) (x : Summary) : State :=
  let seq := s.cu.nextSeq
  let s := (s.placeEntry (.day x s.clock.day s.clock.time)).leavePosting
  ((s.notify (.chargePosted (.day seq x.first x.last s.places))).testPending).startWrite

/-! ## Collection (R187 to R189) -/

def State.inRing (s : State) : Nat := s.cu.ring.entries.length

/-- The number of delivered entries: from the head up to the one before the mark. -/
def State.delivered (s : State) : Nat := seqFrom s.headSeq s.lp.mark

/-- The bytes of an entry (section 11.7). -/
def EntryBody.size : EntryBody → Nat
  | .visit e => 48 + 5 * e.tags.length
  | .day _ _ _ => 39

/-- The entries from the front that fit in so many bytes: a reply is shortened at a whole item (R210). -/
def fitEntries (room : Nat) (l : List Entry) : List Entry :=
  match l with
  | [] => []
  | e :: rest => if e.body.size ≤ room then e :: fitEntries (room - e.body.size) rest else []

/-- The entries that a TAKE_CHARGES of `n` copies: 7 of the 240 bytes are the reply's other fields (R187, R210). -/
def State.takeable (s : State) (n : Nat) : List Entry :=
  fitEntries 233 ((s.cu.ring.entries.drop s.delivered).take n)

/-- The removal of the first `k` entries (R188). -/
def State.removeEntries (s : State) (k : Nat) : State :=
  s.modCharges fun c =>
    { c with ring := { headSlot := (c.ring.headSlot + k) % 64, entries := c.ring.entries.drop k } }

/-- How many entries a CONFIRM_CHARGES removes; none where its number lies nowhere it may (R188). -/
def State.confirmCount (s : State) (seq : Seq) : Option Nat :=
  if seqFrom s.headSeq seq < s.delivered then some (seqFrom s.headSeq seq + 1)
  else if 1 ≤ seqFrom seq s.headSeq ∧ seqFrom seq s.headSeq ≤ 2147483648 then some 0
  else none

/-- The delivery mark goes to the head sequence (R189, R203, R204). -/
def State.rewindMark (s : State) : State := s.modLink fun l => { l with mark := s.headSeq }

/-! ## Ageing (R190) -/

/-- The held time of an entry in ms. -/
def Entry.held (e : Entry) (now : Nat) : Nat := e.heldMs + (now - e.heldSince)

/-- The charge hold in ms. -/
def State.holdMs (s : State) : Nat := 3600000 * s.settings.chargeHold

/-- The ms at which an entry's held time reaches the charge hold. -/
def State.agesAt (s : State) (e : Entry) : Nat := e.heldSince + (s.holdMs - e.heldMs)

def markAged (seq : Seq) (l : List Entry) : List Entry :=
  l.map fun e => if e.seq = seq then { e with aged := true } else e

/-- COLLECT_OVERDUE for an entry (R190). -/
def overdueNotice (e : Entry) (aged : Nat) : OverdueNotice :=
  match e.body with
  | .visit v => ⟨e.seq, true, some v.visit, v.account, v.day, v.time, aged⟩
  | .day _ d t => ⟨e.seq, false, none, none, d, t, aged⟩

/-- An entry ages (R190). -/
def State.age (s : State) (e : Entry) : State :=
  let s := s.modCharges fun c => { c with ring := { c.ring with entries := markAged e.seq c.ring.entries } }
  s.notify (.collectOverdue (overdueNotice e s.agedCount))

/-- The entries that a change of the charge hold ages at once (R190). R190 gives no order among them: the model goes from the
head, and each COLLECT_OVERDUE counts the entries aged up to it (the model's choice, log 44). -/
def State.agePass (s : State) : State :=
  (s.cu.ring.entries.filter fun e => !e.aged && decide (s.holdMs ≤ e.held s.now)).foldl State.age s

/-! ## Accounts (R194, R195) -/

def Account.settle (a : Account) (amount : Nat) : Account := { a with balance := a.balance - amount, balSat := false }

def closePeriods (t : Table Account) : Table Account := t.map fun e => (e.1, { e.2 with periodVisits := 0 })

/-- The number of accounts a CLOSE_PERIOD changes. -/
def changedPeriods (t : Table Account) : Nat := (t.filter fun e => decide (e.2.periodVisits ≠ 0)).length

end Sys2Proof.Machine
end

