-- ==== Sys2Proof/Machine/Bays.lean ====
section
/-!
DEFINITION. The Bay Controller: the rest test, entries to the bay states, seating, the end of a wash and the release
(R65 to R85).
-/

namespace Sys2Proof.Machine

open Sys2Proof

/-! ## Notices and timers -/

/-- BAY_STATE of a bay as it stands (R85). -/
def State.bayNotice (s : State) (b : Bay) (left : BayState) (released : Option Nat) : State :=
  let r := s.bc.get b
  s.notify (.bayState ⟨b, r.state, left, r.held, released, r.service, r.lineFilled, r.lastFault⟩)

/-- Every timer of the bay is stopped. -/
def BayRecord.stopTimers (r : BayRecord) : BayRecord :=
  { r with callTimer := none, settleTimer := none, lossFilter := none, exitPulse := none, exitStall := none,
           sensorTimer := none }

/-- A bay with no visit, no call and no timer, its lamp dark, in a state. -/
def BayRecord.restIn (r : BayRecord) (state : BayState) : BayRecord :=
  { r.stopTimers with state := state, held := none, called := none, releaseHold := false, lamp := false }

/-! ## Seating (R69, R72, R73) -/

/-- Entry to SEATING (R72): the sensor timer stops, a standing call goes on. -/
def State.enterSeating (s : State) (b : Bay) : State :=
  s.modBay b fun r =>
    { r with state := .seating, sensorTimer := none, settleTimer := some (s.due s.settings.seatingSettle) }

def BayRecord.oneActive (r : BayRecord) : Bool := r.wheelStop != r.rearBeam

/-- What an EMPTY bay makes of its sensors: seated, the sensor timer, or nothing (R69, R73). -/
def State.readEmpty (s : State) (b : Bay) : State :=
  let r := s.bc.get b
  if r.seated then s.enterSeating b
  else if r.oneActive then
    s.modBay b fun r => { r with sensorTimer := r.sensorTimer.or (some (s.due s.settings.callTimeout)) }
  else s.modBay b fun r => { r with sensorTimer := none }

/-! ## The rest test (R66) -/

/-- Entry to EMPTY (R69): a matching pass follows. -/
def Work.enterEmpty (w : Work) (b : Bay) (left : BayState) (released : Option Nat) : Work :=
  (w.upd fun s => ((s.modBay b fun r => { r.restIn .empty with lastFault := .none }).bayNotice b left
    released).readEmpty b).after [.matchPass]

/-- Entry to CLOSED (R67). -/
def State.enterClosed (s : State) (b : Bay) (left : BayState) (released : Option Nat) : State :=
  (s.modBay b fun r => r.restIn .closed).bayNotice b left released

/-- Entry to REFILLING with its refill start (R67, R68). -/
def State.enterRefilling (s : State) (b : Bay) (left : BayState) (released : Option Nat) : State :=
  ((s.modBay b fun r => r.restIn .refilling).bayNotice b left released).startRefill b

/-- What the rest test gives. -/
def restResult (service : ServiceFlag) (filled : Bool) (mode : DepotMode) : BayState :=
  match service with
  | .outPending => .closed
  | .outOfService => .closed
  | .inService =>
    if filled then (if washes mode then .empty else .closed)
    else (if mode = .opened then .refilling else .closed)

/-- OUT_PENDING becomes OUT_OF_SERVICE at the test (R66). -/
def ServiceFlag.afterTest : ServiceFlag → ServiceFlag
  | .outPending => .outOfService
  | f => f

/-- The rest test of a bay, naming the state it leaves and the visit it has released (R66). -/
def Work.restTestFrom (w : Work) (b : Bay) (left : BayState) (released : Option Nat) : Work :=
  let r := w.s.bc.get b
  let result := restResult r.service r.lineFilled w.s.mode
  let w := w.upd (·.modBay b fun r => { r with service := r.service.afterTest })
  if result = r.state then w
  else
    match result with
    | .empty => w.enterEmpty b left released
    | .refilling => w.upd (·.enterRefilling b left released)
    | _ => w.upd (·.enterClosed b left released)

/-- The rest test of a bay in the state it is in (R66). -/
def Work.restTest (w : Work) (b : Bay) (released : Option Nat) : Work := w.restTestFrom b (w.s.bc.get b).state released

/-- The test in CLOSED and EMPTY, at a change of mode, service flag or line-filled flag (R66). -/
def Work.restTestIfFree (w : Work) (b : Bay) : Work :=
  match (w.s.bc.get b).state with
  | .closed => w.restTest b none
  | .empty => w.restTest b none
  | _ => w

/-! ## The visit in its bay -/

/-- The bay tells that its vehicle has gone: the visit is CLOSED and leaves the table (R60). -/
def Work.closeVisit (w : Work) (n : Nat) : Work :=
  (w.upd fun s => (s.modVisits fun t => Table.del t n).laneLost n).after [.capacity]

/-- The vehicle has gone: a held visit is closed, and the bay comes free (R79, R81). -/
def Work.vehicleGone (w : Work) (b : Bay) : Work :=
  match (w.s.bc.get b).held with
  | some n => ((w.closeVisit n).upd (·.modBay b fun r => { r with held := none })).restTest b (some n)
  | none => w.restTest b none

/-- Entry to RELEASING (R81). -/
def State.enterReleasing (s : State) (b : Bay) : State :=
  let left := (s.bc.get b).state
  (s.modBay b fun r =>
    { r with state := .releasing, releaseHold := false, exitPulse := some (s.due 10),
             exitStall := some (s.due 120) }).bayNotice b left none

/-- Entry to WASHING with a visit that the bay holds from now (R74). -/
def Work.enterWashing (w : Work) (b : Bay) (n : Nat) : Work :=
  let left := (w.s.bc.get b).state
  let s := w.s.modBay b fun r =>
    { r.stopTimers with
      state := .washing, held := some n, called := none, lamp := false,
      lossFilter := if r.seated then none else some (w.s.due 2) }
  { w with s := s.bayNotice b left none }.after [.startPhase b 1]

/-- The wash ends: the cause is written, the bay is FINISHING and hands its visit over (R75 to R78). A pending drain is
looked at after it (R173). -/
def Work.washEnd (w : Work) (b : Bay) (cause : EndCause) : Work :=
  match (w.s.bc.get b).held with
  | none => w
  | some n =>
    (w.upd fun s =>
      ((s.modVisit n fun v => { v with endCause := some cause }).modBay b fun r =>
        { r.stopTimers with state := .finishing, releaseHold := false }).handOver n).after [.drainCheck]

/-- The posting of a bay's visit (R79). -/
def Work.posted (w : Work) (b : Bay) (v : Visit) (answer : ReleaseAnswer) : Work :=
  let r := w.s.bc.get b
  if r.clear then w.vehicleGone b
  else if v.endCause = some .abandoned ∨ answer = .permit then
    w.upd (·.modBay b fun r => { r with releaseHold := true })
  else w.upd (·.enterReleasing b)

/-- The write completion of a visit's entry (R184). -/
def Work.completeVisit (w : Work) (n : Nat) (p : Price) : Work :=
  match w.s.visit? n with
  | none => w
  | some v =>
    let seq := w.s.cu.nextSeq
    let w := w.upd (·.postVisit n v p)
    let answer := w.s.releaseAnswer v
    let w := match v.bay with
      | some b => w.posted b v answer
      | none => w
    (w.notify (.chargePosted (.visit seq n v.bay v.account p.net answer w.s.places))).upd (·.startWrite)

/-- The retained store reports the write completion (R180, R184, R192). -/
def Work.completeWrite (w : Work) : Work :=
  match w.s.cu.writing, w.s.cu.posting with
  | some (.visit p), .visit n :: _ => w.completeVisit n p
  | some .summary, .summary x :: _ => w.upd (·.postSummary x)
  | _, _ => w

end Sys2Proof.Machine
end

