-- ==== Sys2Proof/Machine/Visits.lean ====
section
/-!
DEFINITION. The Visit Table and Wash Queue: calls, no-shows, withdrawals and cancellations (R49 to R58).
-/

namespace Sys2Proof.Machine

open Sys2Proof

def State.modQueue (s : State) (f : List Nat → List Nat) : State := { s with vq := { s.vq with queue := f s.vq.queue } }

def State.modCalled (s : State) (f : List Nat → List Nat) : State :=
  { s with vq := { s.vq with called := f s.vq.called } }

/-- A number leaves a list and its gap closes (R49). -/
def without (n : Nat) (l : List Nat) : List Nat := l.filter fun m => decide (m ≠ n)

/-! ## The matching pass (R51) -/

/-- A bay qualifies for a call. -/
def State.qualifies (s : State) (b : Bay) : Bool :=
  decide (s.mode = .opened) && decide ((s.bc.get b).state = .empty) && decide ((s.bc.get b).service = .inService)

/-- The smaller of two bays, the lower-numbered where they are equal. -/
def State.smaller (s : State) (best : Option Bay) (b : Bay) : Option Bay :=
  match best with
  | none => some b
  | some c => if s.settings.maxSegments.get b < s.settings.maxSegments.get c then some b else some c

/-- The qualified bay that a length is called to: the smallest it fits. -/
def State.bestBay (s : State) (length : Nat) : Option Bay :=
  (Bay.all.filter fun b => s.qualifies b && decide (length ≤ s.settings.maxSegments.get b)).foldl s.smaller none

/-- A queued visit is called to a bay (R51, R70). -/
def State.call (s : State) (n : Nat) (v : Visit) (b : Bay) : State :=
  let s := (s.modQueue (without n)).modCalled (· ++ [n])
  let s := s.modVisit n fun v => { v with state := .called, bay := some b }
  let s := s.modBay b fun r =>
    { r.stopTimers with state := .called, called := some n, lamp := true, callTimer := some (s.due s.settings.callTimeout) }
  s.notify (.called ⟨n, b, v.cls, v.noShow⟩)

/-- One visit of the walk. -/
def State.callIfFits (s : State) (n : Nat) : State :=
  match s.visit? n with
  | none => s
  | some v =>
    match s.bestBay (s.classLength v.cls) with
    | some b => s.call n v b
    | none => s

/-- The matching pass: the walk from head to tail; departures are a capacity event after it (R51). -/
def Work.matchPass (w : Work) : Work :=
  let s := w.s.vq.queue.foldl State.callIfFits w.s
  if s.vq.called.length = w.s.vq.called.length then { w with s := s } else { w with s := s }.after [.capacity]

/-! ## The end of a call -/

/-- The bay's call has ended: from CALLED it comes free, from SEATING it stays (R70, R72). -/
def Work.callEnded (w : Work) (b : Bay) : Work :=
  let w := w.upd (·.modBay b fun r => { r with called := none, callTimer := none, lamp := false })
  if (w.s.bc.get b).state = .called then w.restTest b none else w

/-- The visit leaves the table as CANCELLED (R56 steps 2 to 5). -/
def State.cancelled (s : State) (n : Nat) (v : Visit) (left : VisitState) (bay : Option Bay) (cause : CancelCause) :
    State :=
  let s := s.modCharges fun c => { c with reservations := c.reservations - 1 }
  let s := (s.laneLost n).modVisits fun t => Table.del t n
  s.notify (.cancelled ⟨n, v.lane, v.account, left, bay, cause⟩)

/-- The pending summary is tested before the lanes are told (R193). -/
def Work.removeVisit (w : Work) (n : Nat) (left : VisitState) (bay : Option Bay) (cause : CancelCause) : Work :=
  match w.s.visit? n with
  | none => w
  | some v => (w.upd fun s => (s.cancelled n v left bay cause).testPending).after [.capacity]

/-- A QUEUED or CALLED visit is cancelled (R56). -/
def Work.cancel (w : Work) (n : Nat) (cause : CancelCause) : Work :=
  match w.s.visit? n with
  | none => w
  | some v =>
    match v.state with
    | .queued => (w.upd (·.modQueue (without n))).removeVisit n .queued none cause
    | .called =>
      let w := w.upd (·.modCalled (without n))
      let w := match v.bay with
        | some b => w.callEnded b
        | none => w
      w.removeVisit n .called v.bay cause
    | _ => w

/-- A visit is back in QUEUED without a bay. -/
def State.requeue (s : State) (n noShow : Nat) : State :=
  s.modVisit n fun v => { v with state := .queued, bay := none, noShow := noShow }

/-- A call timeout: the visit is a no-show (R54). -/
def Work.noShow (w : Work) (b : Bay) (n : Nat) : Work :=
  match w.s.visit? n with
  | none => w
  | some v =>
    let w := (w.upd (·.modCalled (without n))).callEnded b
    if v.noShow = 0 ∧ w.s.vq.queue.length < 24 then
      (w.upd fun s => (s.requeue n 1).modQueue (· ++ [n])).after [.matchPass]
    else w.removeVisit n .called (some b) .noShow

/-- A bay withdraws its call: the visit goes to the head of the queue, or is cancelled where the queue is full (R55). -/
def Work.withdraw (w : Work) (b : Bay) (n : Nat) : Work :=
  match w.s.visit? n with
  | none => w
  | some v =>
    let w := (w.upd (·.modCalled (without n)))
    if w.s.vq.queue.length < 24 then
      ((w.upd fun s => (s.requeue n v.noShow).modQueue (n :: ·)).callEnded b).after [.matchPass]
    else (w.callEnded b).removeVisit n .called (some b) .noShow

/-! ## Withdrawals at a change of mode (R71) -/

/-- The called visits whose bays are in CALLED, with those bays, in Called List order. -/
def State.withdrawable (s : State) : List (Nat × Bay) :=
  s.vq.called.filterMap fun n =>
    match (s.visit? n).bind (·.bay) with
    | some b => if (s.bc.get b).state = .called then some (n, b) else none
    | none => none

/-- The oldest of the withdrawn calls, as many as the queue has room for, go to its head in Called List order; the others,
the newest, are cancelled, oldest first (R55, R71, log 25). The mode is no longer OPEN, so one matching pass and one
capacity event stand for those of every bay and every cancellation (log 42). -/
def Work.withdrawAll (w : Work) : Work :=
  let all := w.s.withdrawable
  let kept := all.take (24 - w.s.vq.queue.length)
  let lost := all.drop (24 - w.s.vq.queue.length)
  let numbers := all.map (·.1)
  let w := w.upd (·.modCalled (·.filter fun n => !numbers.contains n))
  let w := w.upd fun s => kept.foldl (fun s a => s.modVisit a.1 fun v => { v with state := .queued, bay := none }) s
  let w := w.upd (·.modQueue (kept.map (·.1) ++ ·))
  let w := w.silent fun w =>
    lost.foldl (fun w a => w.removeVisit a.1 .called (some a.2) .noShow) (all.foldl (fun w a => w.callEnded a.2) w)
  w.after ((if lost.isEmpty then [] else [.capacity]) ++ (if kept.isEmpty then [] else [.matchPass]))

/-! ## Seating with a call (R53) -/

/-- The called visit has reached IN_BAY: its lane is latched, and its bay washes it (R53, R74). -/
def Work.seatVisit (w : Work) (b : Bay) (n : Nat) : Work :=
  (w.upd fun s =>
    ((s.modCalled (without n)).modVisit n fun v => { v with state := .inBay }).laneSeated n).enterWashing b n

/-- What a sensor change does in each bay state, the level already kept (R65 to R82). -/
def Work.sensorEvent (w : Work) (b : Bay) : Work :=
  let r := w.s.bc.get b
  match r.state with
  | .empty => w.upd (·.readEmpty b)
  | .called => if r.seated then w.upd (·.enterSeating b) else w
  | .seating =>
    if r.seated then w
    else
      let w := w.upd (·.modBay b fun r => { r with settleTimer := none })
      match r.called with
      | some _ => w.upd (·.modBay b fun r => { r with state := .called })
      | none => w.restTest b none
  | .washing =>
    if r.seated then w.upd (·.modBay b fun r => { r with lossFilter := none })
    else w.upd fun s => s.modBay b fun r => { r with lossFilter := r.lossFilter.or (some (s.due 2)) }
  | .finishing => if r.releaseHold && r.clear then w.vehicleGone b else w
  | .releasing => if r.clear then w.vehicleGone b else w
  | .stray => if r.clear then w.restTest b none else w
  | _ => w

/-- The settle has run out (R72, R82). -/
def Work.settled (w : Work) (b : Bay) : Work :=
  let r := w.s.bc.get b
  match r.called with
  | some n => w.seatVisit b n
  | none =>
    w.upd fun s =>
      (s.modBay b fun r => { r with state := .stray, settleTimer := none }).notify
        (.stray b r.wheelStop r.rearBeam false)

end Sys2Proof.Machine
end

