-- ==== Sys2Proof/Machine/Phases.lean ====
section
/-!
DEFINITION. The Phase Runner: the start, the plan, the pulses and the end of a phase (R89 to R101).
-/

namespace Sys2Proof.Machine

open Sys2Proof

/-! ## Start (R89) -/

/-- A phase starts on a record (R89, R100). -/
def Work.beginPhase (w : Work) (b : Bay) (visit number : Nat) (length : Nat) (r : PhaseRecord) : Work :=
  let p := PhaseRun.begin visit number length w.s.now r
  match r.kind with
  | .wet => (w.upd (·.modRunner b fun _ => ⟨some p, 0⟩)).demand b
  | .dry => w.upd fun s => s.modRunner b fun _ => ⟨some (p.run s.now), 0⟩

/-- The start of a phase of the bay's visit. A wash that begins outside OPEN and HOLD, or with empty lines, ends at once
with MODE (R74); with no programme it ends COMPLETE (R14). A bay runs at most one phase: a running one stands. -/
def Work.startPhase (w : Work) (b : Bay) (number : Nat) : Work :=
  let bay := w.s.bc.get b
  match bay.state, bay.held, w.s.plan? b with
  | .washing, some n, none =>
    if number = 1 ∧ !(washes w.s.mode && bay.lineFilled) then w.washEnd b .mode
    else
      match w.s.visit? n with
      | none => w
      | some v =>
        match (w.s.dt.programmes.get v.programme).bind fun p => p.phases[number - 1]? with
        | none => w.washEnd b .complete
        | some r => w.beginPhase b n number (w.s.classLength v.cls) r
  | _, _, _ => w

/-! ## The end of a phase (R98, R101) -/

/-- The result joins the visit's results, and its flags the visit's quality flags (R98 step 5). -/
def Visit.addResult (v : Visit) (r : PhaseResult) : Visit :=
  { v with results := v.results ++ [r], quality := v.quality.union r.flags }

/-- Steps 3 to 6 of a phase end (R98). -/
def State.closePhase (s : State) (b : Bay) (p : PhaseRun) (cause : PhaseCause) : State :=
  let delivered := p.fresh + p.recycled
  let carry := s.carryOff delivered
  let s := s.modRunner b fun r => { r with plan := none }
  let s := (s.phaseReturn b delivered).settleFresh b p.fresh
  s.modVisit p.visit fun v => v.addResult (p.result s.now cause carry)

/-- The end of a phase (R98): what follows at the supply and in the bay is taken after it. -/
def Work.endPhase (w : Work) (b : Bay) (cause : PhaseCause) (abort : Bool) : Work :=
  match w.s.plan? b with
  | none => w
  | some p =>
    let w := (w.leaveSupply b).upd (·.dropDemand b)
    (w.upd (·.closePhase b p cause)).after [.follow b p.visit p.number cause abort]

/-- The programme's phase count, read at a phase end (R14, R101). -/
def State.phaseCount (s : State) (n : Nat) : Nat :=
  match (s.visit? n).bind fun v => s.dt.programmes.get v.programme with
  | some p => p.phases.length
  | none => 0

/-- What follows a phase end (R101, R77). -/
def Work.follow (w : Work) (b : Bay) (visit number : Nat) (cause : PhaseCause) (abort : Bool) : Work :=
  match cause with
  | .cutExit | .abandoned | .interrupted => w
  | .cutMode => w.washEnd b .mode
  | .fault => (w.upd (·.modBay b fun r => { r with lastFault := .valve })).washEnd b .fault
  | _ =>
    if !abort && decide (number < w.s.phaseCount visit) then w.after [.startPhase b (number + 1)]
    else w.washEnd b .complete

/-! ## The plan (R90, R136) -/

/-- QUALITY, where a flag other than RELAX is raised (R136). -/
def State.noteQuality (s : State) (b : Bay) (p : PhaseRun) (u : ReadingsUsed) (avail a debt : Nat) (r : PlanResult) :
    State :=
  if r.flags.reported then
    s.notify (.quality ⟨b, p.visit, p.number, r.flags, r.action, r.outcome, u, r.climit, r.tlimit, avail, a, debt,
      r.figures⟩)
  else s

/-- The plan runs: with recycled water it waits for a grant, else its fresh valve opens (R90). -/
def Work.runPlan (w : Work) (b : Bay) (f : PlanFigures) : Work :=
  let w := w.upd fun s => (s.modPlan b fun p => { p with reserved := f.fresh }).reserve b f.fresh
  if 0 < f.recycled then
    (w.upd fun s => s.modPlan b fun p => { p.pause s.now with requested := true }).requestDraw b
  else w.upd fun s => s.modPlan b fun p => { p.run s.now with freshOpen := true }

/-- The plan of a bay's phase on the readings of its answered demand (R90, R123). -/
def Work.takePlan (w : Work) (b : Bay) (u : ReadingsUsed) : Work :=
  match w.s.plan? b with
  | none => w
  | some p =>
    let avail := w.s.avail
    let a := w.s.remaining
    let debt := w.s.sa.debt
    let r := planPhase p.record u avail a debt w.s.settings.allowanceThreshold
    let w := w.upd fun s =>
      (s.modPlan b fun p => { p with readings := some u, flags := r.flags, figures := r.figures }).noteQuality b p u
        avail a debt r
    match r.outcome, r.figures with
    | .plan, some f => w.runPlan b f
    | .plan, none => w
    | .skipped, _ => w.after [.endPhase b .skipped false]
    | .aborted, _ => w.after [.endPhase b .skipped true]

/-- The plans of one event, in ascending bay number (R123): every plan is taken before the first of the grant passes and
phase ends that they bring (log 41). -/
def Work.takePlans (w : Work) (l : List (Bay × ReadingsUsed)) : Work := l.foldl (fun w a => w.takePlan a.1 a.2) w

/-! ## Meter pulses (R92, R93) -/

def State.strayPulse (s : State) (b : Bay) : State :=
  s.modRunner b fun r => { r with stray := satAdd max16 r.stray 1 }

/-- Both targets met: the phase ends COMPLETE, or SHORT_PLAN with flag SHORT (R93). -/
def Work.endIfMet (w : Work) (b : Bay) : Work :=
  match w.s.plan? b with
  | some p => if p.targetsMet then w.endPhase b (if p.flags.short then .shortPlan else .complete) false else w
  | none => w

/-- A counted fresh pulse. -/
def Work.freshPulse (w : Work) (b : Bay) : Work :=
  (w.upd fun s =>
    (s.modPlan b fun p =>
      { p with fresh := p.fresh + 1, freshOpen := decide (p.fresh + 1 < p.plannedFresh) }).bookFresh).endIfMet b

/-- The recycled target is met: the valve shuts and the grant is released (R93). -/
def Work.recycledMet (w : Work) (b : Bay) : Work :=
  (w.upd (·.modPlan b fun p => { p with recycledOpen := false, grant := none })).leaveSupply b

/-- A counted recycled pulse. -/
def Work.recycledPulse (w : Work) (b : Bay) (p : PhaseRun) : Work :=
  let w := w.upd fun s => ((s.modPlan b fun p => { p with recycled := p.recycled + 1 }).bookRecycled).firstPulse b
  let w := if p.recycled + 1 < p.plannedRecycled then w else w.recycledMet b
  w.endIfMet b

/-- A pulse of a bay's meter (R92). -/
def Work.pulse (w : Work) (b : Bay) (m : Meter) : Work :=
  match w.s.plan? b with
  | none => w.upd (·.strayPulse b)
  | some p =>
    match m with
    | .fresh => if p.freshOpen then w.freshPulse b else w.upd (·.strayPulse b)
    | .recycled => if p.recycledOpen then w.recycledPulse b p else w.upd (·.strayPulse b)

/-! ## Limits and losses (R94 to R97) -/

/-- A grant timeout, the channel's part (R144) and the phase's (R95). -/
def Work.grantTimeout (w : Work) (ch : Supply) (b : Bay) : Work :=
  let w := w.upd (·.withdrawGrant ch b)
  let w := w.upd (·.modPlan b fun p => { p with timeouts := p.timeouts + 1 })
  let w := match w.s.plan? b with
    | some p => if 3 ≤ p.timeouts then (w.upd (·.setRequest b false)).endPhase b .fault false else w
    | none => w
  { w with todo := [.grantPass, .purgeTest] ++ w.todo }

/-- The time limit of a running phase (R94, R100). -/
def limitCause (p : PhaseRun) : PhaseCause :=
  match p.record.kind with
  | .wet => .shortTime
  | .dry => .complete

/-- A cut from the bay: the phase ends with its cause, and the bay ends the wash (R75, R76, R97). -/
def Work.cutWash (w : Work) (b : Bay) (cause : PhaseCause) (ending : EndCause) : Work :=
  (w.endPhase b cause false).washEnd b ending

end Sys2Proof.Machine
end

