-- ==== Sys2Proof/Machine/Modes.lean ====
section
/-!
DEFINITION. The depot modes: changes of mode, the frost modes, drains, refills and the choice of REFILL (R167 to R175).
-/

namespace Sys2Proof.Machine

open Sys2Proof

/-! ## A change of mode -/

/-- MODE (R176). -/
def State.modeNotice (s : State) (left : DepotMode) (cause : ModeCause) (drained cut : Option Nat) : State :=
  let ch5 := s.qs.readings.getCh .ch5
  s.notify (.mode ⟨s.mode, left, cause, s.lm.holdOrigin, s.lm.drainPending.isSome, s.timerLeft s.lm.deferral, ch5.value,
    ch5.clamp, drained, cut⟩)

/-- Calls are withdrawn when the mode changes from OPEN to HOLD, CLOSED or REFILL (R71). -/
def Work.withdrawCalls (w : Work) (old new : DepotMode) : Work :=
  if old = .opened ∧ new ≠ .drain then w.withdrawAll else w

def Work.restTests (w : Work) : Work := Bay.all.foldl Work.restTestIfFree w

/-- The mode becoming OPEN makes the EMPTY bays qualify: a matching pass (R52). -/
def Work.openPass (w : Work) (new : DepotMode) : Work := if new = .opened then w.after [.matchPass] else w

/-- The blocks are told of a mode: GU, VQ and BC, SA, the reclaim decision (R169, R174 step 5). Every rest test is made
before the first of the matching passes that the entries to EMPTY and the mode OPEN bring (log 17). -/
def Work.tellMode (w : Work) (old new : DepotMode) : Work :=
  let w := (((w.gateMode old new).withdrawCalls old new).restTests).openPass new
  (w.supplyMode new).upd (·.decideReclaim)

/-- The mode and its hold origin. -/
def State.putMode (s : State) (new : DepotMode) (origin : Option HoldOrigin) : State :=
  s.modLoop fun l => { l with mode := new, holdOrigin := origin }

/-- A change of mode with its notice (R169, R170, R175); entering REFILL makes its first choice. -/
def Work.changeMode (w : Work) (new : DepotMode) (origin : Option HoldOrigin) (cause : ModeCause) : Work :=
  let old := w.s.mode
  let w := (w.upd (·.putMode new origin)).tellMode old new
  let w := w.upd (·.modeNotice old cause none none)
  if new = .refill then w.after [.refillChoice] else w

/-! ## Drains (R168, R173, R174) -/

/-- A pending drain is dropped and its timer stopped (R169). -/
def State.dropDrain (s : State) : State := s.modLoop fun l => { l with drainPending := none, deferral := none }

/-- The entry to DRAIN: the pending drain and the timers go first, then the phases are cut bay by bay (R174, log 18). -/
def Work.enterDrain (w : Work) (cause : ModeCause) : Work :=
  (w.upd fun s => s.dropDrain.modLoop fun l => { l with persist := none }).after [.drainCuts Bay.all 0 cause]

/-- The cut of one bay's phase, then of the rest (R174 step 1). -/
def Work.drainCuts (w : Work) (rest : List Bay) (cut : Nat) (cause : ModeCause) : Work :=
  match rest with
  | [] => w.after [.drainRest cut cause]
  | b :: rest =>
    match w.s.plan? b with
    | some _ => (w.endPhase b .cutMode false).after [.drainCuts rest (cut + 1) cause]
    | none => w.after [.drainCuts rest cut cause]

/-- A bay whose lines are filled is drained (R168). -/
def Work.drainBay (w : Work) (b : Bay) : Work :=
  if (w.s.bc.get b).lineFilled then (w.upd (·.drainLine b)).restTestIfFree b else w

/-- Every QUEUED visit, then every CALLED one, is cancelled (R174 step 3). R39 makes each cancellation a capacity event;
the model takes one for all of them, after steps 4 to 6 (log 42). -/
def Work.cancelAll (w : Work) : Work :=
  let gone := w.s.vq.queue ++ w.s.vq.called
  let w := w.silent fun w => gone.foldl (fun w n => w.cancel n .mode) w
  w.after (if gone.isEmpty then [] else [.capacity])

/-- Steps 2 to 6 of the entry to DRAIN (R174). -/
def Work.drainRest (w : Work) (cut : Nat) (cause : ModeCause) : Work :=
  let old := w.s.mode
  let lines := w.s.vLines
  let w := w.upd (·.putMode .drain none)
  let w := Bay.all.foldl Work.drainBay w.cancelAll
  let w := w.tellMode old .drain
  w.upd (·.modeNotice old cause (some lines) (some cut))

/-- A drain is asked for without force (R173). A MODE sent with no change of mode names the present mode as entered and as
left (log 39). -/
def Work.askDrain (w : Work) (cause : ModeCause) : Work :=
  if w.s.anyWashing then
    let old := w.s.mode
    let w := w.upd fun s =>
      s.modLoop fun l => { l with drainPending := some cause, deferral := some (s.due s.settings.deferralMax) }
    if old = .opened then w.changeMode .hold (some .drain) cause
    else w.upd (·.modeNotice old cause none none)
  else w.enterDrain cause

/-- A wash has ended: with a drain pending and no bay WASHING, DRAIN is entered (R173). -/
def Work.drainCheck (w : Work) : Work :=
  match w.s.lm.drainPending with
  | some cause => if w.s.anyWashing then w else w.enterDrain cause
  | none => w

/-! ## SET_MODE (R169) -/

/-- SET_MODE REFILL is refused on an invalid CH5 reading, or one below the hold threshold. -/
def State.refillRefused (s : State) : Bool :=
  let r := s.qs.readings.getCh .ch5
  !r.valid || decide (r.value < s.settings.holdThreshold)

/-- OPEN, HOLD, CLOSED or REFILL wanted. -/
def Work.wantMode (w : Work) (new : DepotMode) : Work :=
  let origin := if new = .hold then some HoldOrigin.host else none
  let w := w.upd (·.dropDrain)
  if w.s.mode = new then w.upd (·.putMode new origin) else w.changeMode new origin .host

/-- DRAIN wanted. -/
def Work.wantDrain (w : Work) (force : Bool) : Work :=
  if w.s.mode = .drain then w
  else if force then w.enterDrain .host
  else if w.s.lm.drainPending.isSome then w
  else w.askDrain .host

/-! ## The frost modes (R170, R171) -/

/-- The frost hold on a CH5 value. -/
def Work.frostHold (w : Work) (v : Int) : Work :=
  if w.s.settings.autoFrost ∧ w.s.lm.drainPending = none then
    if v < w.s.settings.holdThreshold then
      (if w.s.mode = .opened then w.changeMode .hold (some .frost) .frost else w)
    else if w.s.settings.holdThreshold + 2 ≤ v ∧ w.s.mode = .hold ∧ w.s.lm.holdOrigin = some .frost then
      w.changeMode .opened none .frost
    else w
  else w

/-- The persist timer on a CH5 value. -/
def State.frostPersist (s : State) (v : Int) : State :=
  if s.settings.autoFrost ∧ s.mode ≠ .drain then
    if v < s.settings.drainThreshold then
      s.modLoop fun l => { l with persist := l.persist.or (some (s.due s.settings.persistTime)) }
    else s.modLoop fun l => { l with persist := none }
  else s

/-- A CH5 reading is handed over at its completion (R120). -/
def Work.airReading (w : Work) : Work :=
  let v := (w.s.qs.readings.getCh .ch5).value
  (w.frostHold v).upd (·.frostPersist v)

/-- The persist timer's expiry asks for a drain, unless one is pending (R171). -/
def Work.persistExpiry (w : Work) : Work :=
  let w := w.upd (·.modLoop fun l => { l with persist := none })
  if w.s.lm.drainPending.isSome || decide (w.s.mode = .drain) then w else w.askDrain .frost

/-! ## Refills (R167, R175) -/

/-- The refill completion of a bay (R167, R168). In DRAIN the lines are drained before the bay's rest test, so that the test
and its BAY_STATE find the line-filled flag clear (the model's choice, log 43). -/
def Work.refillDone (w : Work) (b : Bay) (r : Refill) : Work :=
  let w := w.upd (·.bookRefill b r)
  let w := if w.s.mode = .drain then w.upd (·.drainLine b) else w
  let w := match (w.s.bc.get b).state with
    | .refilling => w.restTest b none
    | _ => w.restTestIfFree b
  let w := w.upd (·.decideReclaim)
  if w.s.mode = .refill then w.after [.refillChoice] else w

/-- A bay that the choice of REFILL may take (R175). -/
def State.refillable (s : State) (b : Bay) : Bool :=
  let r := s.bc.get b
  decide (r.state = .closed) && decide (r.service = .inService) && !r.lineFilled && (s.lm.refills.get b).isNone

/-- No refill is in flight. -/
def State.noRefill (s : State) : Bool := !s.lm.refills.toList.any (·.isSome)

/-- The choice of the next bay in REFILL mode (R175). -/
def Work.refillChoice (w : Work) : Work :=
  if w.s.mode ≠ .refill then w
  else
    match Bay.all.find? w.s.refillable with
    | some b => w.upd (·.enterRefilling b .closed none)
    | none =>
      if w.s.noRefill then
        if w.s.lm.drainPending.isSome then w.changeMode .hold (some .drain) .refillDone
        else w.changeMode .opened none .refillDone
      else w

/-! ## Service (R83) -/

def State.setService (s : State) (b : Bay) (f : ServiceFlag) : State := s.modBay b fun r => { r with service := f }

/-- BAY_SERVICE OUT of a bay whose flag is IN_SERVICE. -/
def Work.takeOut (w : Work) (b : Bay) : Work :=
  let r := w.s.bc.get b
  match r.state with
  | .empty => (w.upd (·.setService b .outOfService)).restTest b none
  | .closed => w.upd (·.setService b .outOfService)
  | .called =>
    let w := w.upd (·.setService b .outPending)
    match r.called with
    | some n => w.withdraw b n
    | none => w.restTest b none
  | _ => w.upd (·.setService b .outPending)

/-- BAY_SERVICE (R83). -/
def Work.service (w : Work) (b : Bay) (wanted : ServiceWanted) : Work :=
  match wanted, (w.s.bc.get b).service with
  | .outOfService, .inService => w.takeOut b
  | .inService, .outPending => w.upd (·.setService b .inService)
  | .inService, .outOfService => (w.upd (·.setService b .inService)).restTestIfFree b
  | _, _ => w

/-- BAY_SERVICE taken, with the choice of REFILL where no refill is in flight (R175). -/
def Work.serviceTaken (w : Work) (b : Bay) (wanted : ServiceWanted) : Work :=
  let w := w.service b wanted
  if w.s.mode = .refill ∧ w.s.noRefill then w.after [.refillChoice] else w

end Sys2Proof.Machine
end

