-- ==== Sys2Proof/Machine/Operands.lean ====
section
/-!
DEFINITION. The operands of requests: the range checks (check 2 of R1 and its like), each giving the entry that the body
stands for, or none for RANGE.
-/

namespace Sys2Proof.Machine

open Sys2Proof

/-- A number lies in lo..hi. -/
def within (lo hi n : Nat) : Bool := decide (lo ≤ n) && decide (n ≤ hi)

def withinInt (lo hi n : Int) : Bool := decide (lo ≤ n) && decide (n ≤ hi)

/-! ## Table requests -/

/-- PUT_CLASS (R2). -/
def checkClass (f : PutClass) : Option (Cls × ClassRecord) := do
  let c ← Cls.ofNat? f.cls
  if within 1 24 f.length && within 2 8 f.axles && within 50 400 f.factor then
    some (c, ⟨f.length, f.axles, f.factor⟩)
  else none

/-- What a PUT_ACCOUNT body stands for (R4): status, tariff 1..7, default programme, credit limit. -/
structure AccountFields where
  status : AccountStatus
  tariff : Trf
  programme : Prog
  credit : Nat
deriving DecidableEq, Repr

def checkAccount (f : PutAccount) : Option AccountFields := do
  let status ← f.status
  let tariff ← Trf.ofNat? f.tariff
  let programme ← Prog.ofNat? f.programme
  if within 1 max16 f.number && decide (tariff ≠ .tariff0) && decide (f.credit ≤ max32) then
    some ⟨status, tariff, programme, f.credit⟩
  else none

/-- PUT_TAG (R8). -/
def checkTag (f : PutTag) : Option TagRecord := do
  let role ← f.role
  let c ← Cls.ofNat? f.cls
  if within 1 1099511627775 f.tag && within 1 max16 f.account then some ⟨f.account, role, c⟩ else none

def tierInRange (t : Tier) : Bool := decide (t.threshold ≤ max16) && decide (t.discount ≤ 50)

/-- The tiers that a PUT_TARIFF stores: tariff 0's are not checked and are stored as zeros (R10). -/
def tiersFit (n : Trf) (f : PutTariff) : Bool :=
  decide (n = .tariff0) ||
    (tierInRange f.tier1 && tierInRange f.tier2 && tierInRange f.tier3 &&
      decide (f.tier1.threshold < f.tier2.threshold) && decide (f.tier2.threshold < f.tier3.threshold))

/-- PUT_TARIFF (R10). -/
def checkTariff (f : PutTariff) : Option (Trf × Tariff) := do
  let n ← Trf.ofNat? f.number
  if f.prices.toList.all (fun p => decide (p ≤ 1000000)) && !f.strayBits && decide (f.axleRate ≤ 100000) &&
      decide (f.freshRate ≤ 100000) && tiersFit n f then
    if n = .tariff0 then some (n, ⟨f.prices, f.allowed, f.axleRate, f.freshRate, ⟨0, 0⟩, ⟨0, 0⟩, ⟨0, 0⟩⟩)
    else some (n, ⟨f.prices, f.allowed, f.axleRate, f.freshRate, f.tier1, f.tier2, f.tier3⟩)
  else none

/-- The volume of a phase record (R12, R13). -/
def volumeFits (k : PhaseKind) (v : Nat) : Bool :=
  match k with
  | .wet => within 10 2000 v
  | .dry => decide (v = 0)

/-- A phase record of a PUT_PROGRAMME (R12, R13). -/
def checkPhase (f : PhaseBody) : Option PhaseRecord := do
  let kind ← f.kind
  let sweepMode ← f.sweepMode
  let onStale ← f.onStale
  let onClamp ← f.onClamp
  let onFresh ← f.onFresh
  let onFilter ← f.onFilter
  if volumeFits kind f.volume && within 30 1800 f.timeLimit && within 100 20000 f.condLimit &&
      decide (f.turbLimit ≤ 500) && decide (f.cap ≤ 1000) && within 100 200 f.relax && decide (f.weight ≤ 100) &&
      decide (f.nozzleDelay ≤ 600) && within 1 100 f.nozzleOn && within 2 200 f.nozzleFrame &&
      decide (f.nozzleOn < f.nozzleFrame) && within 1 20 f.framesPerSegment &&
      [4, 8, 16].contains f.sweepGroup && decide (f.startSegment ≤ 23) then
    some { kind := kind, volume := f.volume, timeLimit := f.timeLimit, condLimit := f.condLimit,
           turbLimit := f.turbLimit, cap := f.cap, relax := f.relax, weight := f.weight, nozzleDelay := f.nozzleDelay,
           nozzleOn := f.nozzleOn, nozzleFrame := f.nozzleFrame, framesPerSegment := f.framesPerSegment,
           sweepMode := sweepMode, sweepGroup := f.sweepGroup, startSegment := f.startSegment, onStale := onStale,
           onClamp := onClamp, onFresh := onFresh, onFilter := onFilter }
  else none

def checkPhases (l : List PhaseBody) : Option (List PhaseRecord) :=
  match l with
  | [] => some []
  | f :: rest => do
    let r ← checkPhase f
    let rs ← checkPhases rest
    some (r :: rs)

/-- PUT_PROGRAMME (R13). -/
def checkProgramme (f : PutProgramme) : Option (Prog × Programme) := do
  let n ← Prog.ofNat? f.number
  let phases ← checkPhases f.phases
  if within 1 8 phases.length && decide (f.includedFresh ≤ 20000) && decide ((phases.map (·.weight)).sum = 100) then
    some (n, ⟨f.includedFresh, phases⟩)
  else none

/-! ## SET_DEPOT (R15, R16) -/

def lanesFit (f : SetDepot) : Bool :=
  [4, 8, 16, 32, 64, 128].contains f.debounce && within 30 600 f.laneStall

def baysFit (f : SetDepot) : Bool :=
  f.maxSegments.toList.all (within 4 24) && f.lineVolume.toList.all (within 20 400) && within 60 900 f.callTimeout &&
    within 1 10 f.seatingSettle

def supplyFits (f : SetDepot) : Bool :=
  within 2 30 f.grantTimeout && decide (f.startLead ≤ 15) && decide (f.runOn ≤ 300) &&
    within 1200 14400 f.filterInterval && within 60 300 f.purgeDuration && within 50 500 f.purgeVolume &&
    !f.strayCarts

def loopFits (f : SetDepot) : Bool :=
  within 1000 60000 f.pitCapacity && within 1000 60000 f.tankCapacity && within 50 10000 f.reserveFloor &&
    decide (f.lowMark ≤ 60000) && decide (f.highMark ≤ 60000) && decide (f.carryOff ≤ 200) &&
    decide (f.allowanceThreshold ≤ 1000000)

def frostFits (f : SetDepot) : Bool :=
  withinInt (-10) 10 f.holdThreshold && withinInt (-20) 5 f.drainThreshold && within 300 7200 f.persistTime &&
    within 300 3600 f.deferralMax && within 1 72 f.chargeHold

def probesFit (f : SetDepot) : Bool :=
  f.probeSettle.toList.all (fun n => [1, 2, 4, 8].contains n) && f.probePeriod.toList.all (within 10 600) &&
    f.calLo.toList.all (withinInt (-100000) 100000) && f.calHi.toList.all (withinInt (-100000) 100000)

/-- The cross-field conditions (R16). -/
def crossFits (f : SetDepot) : Bool :=
  decide (f.purgeVolume ≤ f.reserveFloor) && decide (f.reserveFloor < f.tankCapacity) &&
    decide (f.highMark ≤ f.tankCapacity) && decide (f.lowMark < f.pitCapacity) &&
    decide (f.drainThreshold < f.holdThreshold) && decide (f.cartMask ≠ ⟨false, false, false, false⟩) &&
    Channel.all.all fun ch => decide (f.calLo.getCh ch < f.calHi.getCh ch)

/-- The record that a SET_DEPOT body stands for, the daily allowance kept (R16). -/
def checkDepot (daily : Nat) (f : SetDepot) : Option Settings := do
  let casual ← f.casualAdmission
  let casualClass ← Cls.ofNat? f.casualClass
  let axle1 ← f.axleMode.p1
  let axle2 ← f.axleMode.p2
  let lead ← f.leadMode
  let frost ← f.autoFrost
  if lanesFit f && baysFit f && supplyFits f && loopFits f && frostFits f && probesFit f && crossFits f then
    some { casualAdmission := casual, casualClass := casualClass, axleMode := ⟨axle1, axle2⟩, debounce := f.debounce,
           laneStall := f.laneStall, maxSegments := f.maxSegments, lineVolume := f.lineVolume,
           callTimeout := f.callTimeout, seatingSettle := f.seatingSettle, grantTimeout := f.grantTimeout,
           startLead := f.startLead, runOn := f.runOn, filterInterval := f.filterInterval,
           purgeDuration := f.purgeDuration, purgeVolume := f.purgeVolume, cartMask := f.cartMask, leadMode := lead,
           pitCapacity := f.pitCapacity, tankCapacity := f.tankCapacity, reserveFloor := f.reserveFloor,
           lowMark := f.lowMark, highMark := f.highMark, carryOff := f.carryOff, dailyAllowance := daily,
           allowanceThreshold := f.allowanceThreshold, autoFrost := frost, holdThreshold := f.holdThreshold,
           drainThreshold := f.drainThreshold, persistTime := f.persistTime, deferralMax := f.deferralMax,
           chargeHold := f.chargeHold, probeSettle := f.probeSettle, probePeriod := f.probePeriod, calLo := f.calLo,
           calHi := f.calHi }
  else none

/-! ## ASSIGN_BAY (R58) -/

def hasTwice (l : List Nat) : Bool :=
  match l with
  | [] => false
  | a :: rest => rest.contains a || hasTwice rest

/-- The typed operands of an ASSIGN_BAY. -/
structure AssignFields where
  bay : Bay
  account : Option Nat
  cls : Cls
  programme : Prog
  tags : List TagNo
deriving DecidableEq, Repr

/-- Check 2 of R58. -/
def checkAssign (f : AssignBay) : Option AssignFields := do
  let bay ← Bay.ofNat? f.bay
  let c ← Cls.ofNat? f.cls
  let p ← Prog.ofNat? f.programme
  if decide (f.tags.length ≤ 4) && !f.tags.contains 0 && !hasTwice f.tags then
    some ⟨bay, if f.account = 0 then none else some f.account, c, p, f.tags⟩
  else none

end Sys2Proof.Machine
end

