-- ==== Sys2Proof/Machine/Tables.lean ====
section
/-!
DEFINITION. The table requests at their owner (R1 to R17): each gives the work done and when its reply is formed.
-/

namespace Sys2Proof.Machine

open Sys2Proof

/-- What an owner gives back: the work, and the form of its reply. -/
abbrev Answered := Work × ReplyForm

/-- A request answered with a code alone; the work is as it was. -/
def Work.say (w : Work) (c : ResultCode) : Answered := (w, .ready c .none)

/-- A request carried out, with the fields of its reply. -/
def Work.ok (w : Work) (d : ReplyData) : Answered := (w, .ready .ok d)

/-- An owner that finds a body of another length answers BAD_LENGTH and makes no other check (R200). -/
def Work.withBody {α : Type} (w : Work) (body : Body α) (f : α → Answered) : Answered :=
  match body with
  | .wrongLength => w.say .badLength
  | .fields x => f x

/-! ## PUT_CLASS (R2, R52) -/

def State.putClass (s : State) (c : Cls) (r : ClassRecord) : State :=
  s.modTables fun t => { t with classes := t.classes.setCls c r }

def Work.reqPutClass (w : Work) (body : Body PutClass) : Answered :=
  w.withBody body fun f =>
    match checkClass f with
    | none => w.say .range
    | some (c, r) => ((w.upd (·.putClass c r)).after [.matchPass]).say .ok

/-! ## Accounts (R4, R5) -/

/-- The entry that a PUT_ACCOUNT leaves: a present account keeps balance, BAL_SAT and period visits (R4). -/
def accountEntry (old : Option Account) (f : AccountFields) : Account :=
  match old with
  | some a => { a with status := f.status, tariff := f.tariff, programme := f.programme, credit := f.credit }
  | none => ⟨f.status, f.tariff, f.programme, f.credit, 0, false, 0⟩

def State.putAccount (s : State) (n : Nat) (f : AccountFields) : State :=
  s.modTables fun t => { t with accounts := Table.put t.accounts n (accountEntry (Table.look t.accounts n) f) }

def State.defines (s : State) (p : Prog) : Bool := (s.dt.programmes.get p).isSome

def Work.reqPutAccount (w : Work) (body : Body PutAccount) : Answered :=
  w.withBody body fun f =>
    match checkAccount f with
    | none => w.say .range
    | some a =>
      if (w.s.dt.tariffs.getTrf a.tariff).isNone || !w.s.defines a.programme then w.say .notFound
      else if !Table.has w.s.dt.accounts f.number && decide (256 ≤ w.s.dt.accounts.length) then w.say .full
      else (w.upd (·.putAccount f.number a)).say .ok

/-- Some visit in the table holds the account. -/
def State.visitsOf (s : State) (n : Nat) : Nat := (s.vq.visits.filter fun v => decide (v.2.account = some n)).length

def State.dropAccount (s : State) (n : Nat) : State :=
  s.modTables fun t =>
    { t with accounts := Table.del t.accounts n, tags := t.tags.filter fun g => decide (g.2.account ≠ n) }

def Work.reqDropAccount (w : Work) (body : Body Nat) : Answered :=
  w.withBody body fun n =>
    if !within 1 max16 n then w.say .range
    else
      match w.s.account? n with
      | none => w.say .notFound
      | some a =>
        if 0 < w.s.visitsOf n ∨ 0 < a.balance then w.say .state else (w.upd (·.dropAccount n)).say .ok

/-! ## Tags (R8, R9) -/

def State.putTag (s : State) (n : TagNo) (r : TagRecord) : State :=
  s.modTables fun t => { t with tags := Table.put t.tags n r }

def Work.reqPutTag (w : Work) (body : Body PutTag) : Answered :=
  w.withBody body fun f =>
    match checkTag f with
    | none => w.say .range
    | some r =>
      if !Table.has w.s.dt.accounts r.account then w.say .notFound
      else if !Table.has w.s.dt.tags f.tag && decide (1024 ≤ w.s.dt.tags.length) then w.say .full
      else (w.upd (·.putTag f.tag r)).say .ok

def State.dropTag (s : State) (n : TagNo) : State := s.modTables fun t => { t with tags := Table.del t.tags n }

def Work.reqDropTag (w : Work) (body : Body TagNo) : Answered :=
  w.withBody body fun n =>
    if n = 0 then w.say .range
    else if !Table.has w.s.dt.tags n then w.say .notFound
    else (w.upd (·.dropTag n)).say .ok

/-! ## Tariffs and programmes (R10, R13) -/

def State.putTariff (s : State) (n : Trf) (t : Tariff) : State :=
  s.modTables fun d => { d with tariffs := d.tariffs.setTrf n (some t) }

/-- Every allowed programme is defined (R10). -/
def State.allowedDefined (s : State) (t : Tariff) : Bool := Prog.all.all fun p => !t.allowed.get p || s.defines p

def Work.reqPutTariff (w : Work) (body : Body PutTariff) : Answered :=
  w.withBody body fun f =>
    match checkTariff f with
    | none => w.say .range
    | some (n, t) => if w.s.allowedDefined t then (w.upd (·.putTariff n t)).say .ok else w.say .notFound

def State.putProgramme (s : State) (n : Prog) (p : Programme) : State :=
  s.modTables fun d => { d with programmes := d.programmes.set n (some p) }

def Work.reqPutProgramme (w : Work) (body : Body PutProgramme) : Answered :=
  w.withBody body fun f =>
    match checkProgramme f with
    | none => w.say .range
    | some (n, p) => (w.upd (·.putProgramme n p)).say .ok

/-! ## SET_DEPOT (R16, R17) -/

/-- The line volume of a bay whose lines are filled would change (R16). -/
def State.movesHeldLine (s : State) (t : Settings) : Bool :=
  Bay.all.any fun b => (s.bc.get b).lineFilled && decide (t.lineVolume.get b ≠ s.settings.lineVolume.get b)

def State.putSettings (s : State) (t : Settings) : State := s.modTables fun d => { d with settings := t }

/-- A changed axle counter mode returns the lane's counter to NONE (R17). -/
def State.recount (s : State) (old : Settings) (l : Lane) : State :=
  if old.axleMode.get l = s.settings.axleMode.get l then s else s.modLane l fun r => { r with counter := .none }

/-- Auto-frost set to OFF stops the persist timer (R171). -/
def State.stopPersist (s : State) : State :=
  if s.settings.autoFrost then s else s.modLoop fun l => { l with persist := none }

/-- What a SET_DEPOT brings at once (R17, R52, R119, R142, R145, R155, R164, R190; the order is log 27's). -/
def Work.settingsTaken (w : Work) (old : Settings) : Work :=
  let new := w.s.settings
  let w := w.upd fun s => (s.recount old .lane1).recount old .lane2
  let w := ((w.leadChange old.leadMode new.leadMode).resetCut .supply1).resetCut .supply2
  let w := w.upd fun s => s.chooseIfIdle.stopPersist.agePass.decideReclaim
  w.after ([.matchPass, .grantPass] ++ (if old.leadMode = .fixed ∧ new.leadMode = .variable then [.purgeTest] else []))

def Work.reqSetDepot (w : Work) (body : Body SetDepot) : Answered :=
  w.withBody body fun f =>
    match checkDepot w.s.settings.dailyAllowance f with
    | none => w.say .range
    | some t =>
      if w.s.movesHeldLine t then w.say .state
      else ((w.upd (·.putSettings t)).settingsTaken w.s.settings).say .ok

end Sys2Proof.Machine
end

