-- ==== Sys2Proof/Machine/Queries.lean ====
section
/-!
DEFINITION. The queries: what each returns (R6, R43, R61, R62, R86, R106, R121, R137, R157, R176, R202).
-/

namespace Sys2Proof.Machine

open Sys2Proof

/-! ## GET_STATUS (R202) -/

def State.statusReply (s : State) : StatusReply where
  noticesLost := s.lp.noticesLost
  drainPending := s.lm.drainPending.isSome
  pendingSummary := s.cu.pendingSummary.isSome
  purgeInProgress := s.sa.purge.isSome
  lastCold := decide (s.lp.startKind = .cold)
  mode := s.mode
  holdOrigin := s.lm.holdOrigin
  day := s.clock.day
  time := s.clock.time
  secondsSinceStart := s.now / 1000
  crcErrors := s.lp.crcErrors
  framingErrors := s.lp.framingErrors
  busyAnswers := s.lp.busyAnswers
  dropped := s.lp.dropped
  noticesWaiting := s.lp.notices.length
  lanes := ⟨s.gu.p1.state, s.gu.p2.state⟩
  bays := ⟨s.bc.s1.state, s.bc.s2.state, s.bc.s3.state, s.bc.s4.state, s.bc.s5.state, s.bc.s6.state⟩
  visits := s.vq.visits.length
  queued := s.vq.queue.length
  called := s.vq.called.length
  entries := s.inRing
  reservations := s.cu.reservations
  aged := s.agedCount
  nextSeq := s.cu.nextSeq
  debt := s.sa.debt
  remaining := s.remaining
  vRec := s.lm.vRec

/-- The reply carries the flag as it stood, which is then cleared. -/
def Work.reqGetStatus (w : Work) (body : Body Unit) : Answered :=
  w.withBody body fun _ =>
    (w.upd (·.modLink fun l => { l with noticesLost := false })).ok (.status w.s.statusReply)

/-! ## GET_VISIT (R61, R210) -/

/-- A number's place in a list, from 1. -/
def placeIn (n : Nat) (l : List Nat) : Option Nat :=
  match l with
  | [] => none
  | m :: rest => if m = n then some 1 else (placeIn n rest).map (· + 1)

def State.place (s : State) (n : Nat) (v : Visit) : Option Nat :=
  match v.state with
  | .queued => placeIn n s.vq.queue
  | .called => placeIn n s.vq.called
  | _ => none

/-- The results from the front that fit in so many bytes (R210). -/
def fitResults (room : Nat) (l : List PhaseResult) : List PhaseResult :=
  match l with
  | [] => []
  | p :: rest =>
    if (resultBytes p).length ≤ room then p :: fitResults (room - (resultBytes p).length) rest else []

/-- The reply, shortened at a whole result to 240 bytes: result code, head, count, results, tail. -/
def State.visitReply (s : State) (n first : Nat) (v : Visit) : VisitReply :=
  let all := v.results.drop (first - 1)
  let r : VisitReply := ⟨n, v, v.results.length, all, s.place n v⟩
  let rest := 2 + (visitHeadBytes r).length + (visitTailBytes r).length
  { r with sent := fitResults (240 - rest) all }

def Work.reqGetVisit (w : Work) (body : Body GetVisit) : Answered :=
  w.withBody body fun f =>
    if f.visit = 0 || !within 1 8 f.firstPhase then w.say .range
    else
      match w.s.visit? f.visit with
      | none => w.say .notFound
      | some v => w.ok (.visit (w.s.visitReply f.visit f.firstPhase v))

/-! ## GET_QUEUE (R62) -/

def State.queuedItem (s : State) (n : Nat) : Option QueuedItem :=
  (s.visit? n).map fun v => ⟨n, v.cls, v.lane, v.programme, v.noShow⟩

def State.calledItem (s : State) (n : Nat) : Option CalledItem := (s.visit? n).map fun v => ⟨n, v.bay, v.noShow⟩

def State.queueReply (s : State) : QueueReply :=
  ⟨s.vq.visits.length, s.vq.queue.filterMap s.queuedItem, s.vq.called.filterMap s.calledItem⟩

def Work.reqGetQueue (w : Work) (body : Body Unit) : Answered := w.withBody body fun _ => w.ok (.queue w.s.queueReply)

/-! ## GET_BAY (R86, R106) -/

/-- The running phase's fields (R106). Before the generator has left IDLE the current segment is given as the first of the
order, and the tenths left as 0 (log 40). -/
def PhaseRun.view (p : PhaseRun) (now : Nat) : PhaseView where
  number := p.number
  kind := p.record.kind
  stage := p.stage
  volume := p.record.volume
  timeLimit := p.record.timeLimit
  figures := p.figures
  reserved := p.reserved
  fresh := p.fresh
  recycled := p.recycled
  flags := p.flags
  grant := p.grant
  requested := p.requested
  timeouts := p.timeouts
  running := wholeTenths (p.runningMs now)
  paused := wholeTenths (p.pausedMs now)
  freshOpen := p.freshOpen
  recycledOpen := p.recycledOpen
  genState := p.gen.state
  genLeft := p.nozzleLeft now
  segment := p.segmentAt p.sweepPos
  covered := p.covered.length

/-- The exit button's level is free at each reading (log 8). -/
def State.bayReply (s : State) (b : Bay) : BayReply :=
  let r := s.bc.get b
  { bay := b, state := r.state, service := r.service, lineFilled := r.lineFilled, held := r.held, called := r.called,
    releaseHold := r.releaseHold, lastFault := r.lastFault, wheelStop := r.wheelStop, rearBeam := r.rearBeam,
    exitButton := Config.exitButtonLevel b.num s.freshCounter, callLeft := s.timerLeft r.callTimer,
    settleLeft := s.timerLeft r.settleTimer, lossLeft := s.timerLeft r.lossFilter,
    exitPulseLeft := s.timerLeft r.exitPulse, exitStallLeft := s.timerLeft r.exitStall,
    sensorLeft := s.timerLeft r.sensorTimer, lamp := r.lamp, barrierOpen := r.exitPulse.isSome,
    maxSegments := s.settings.maxSegments.get b, lineVolume := s.settings.lineVolume.get b,
    phase := if r.state = .washing then (s.plan? b).map (·.view s.now) else none, stray := (s.pr.get b).stray }

/-- A free value has been read. -/
def State.useFresh (s : State) : State := { s with freshCounter := s.freshCounter + 1 }

def Work.reqGetBay (w : Work) (body : Body Nat) : Answered :=
  w.withBody body fun n =>
    match Bay.ofNat? n with
    | none => w.say .range
    | some b => (w.upd (·.useFresh)).ok (.bay (w.s.bayReply b))

/-! ## GET_WATER (R137, R157, R176) -/

def State.supplyView (s : State) (ch : Supply) : SupplyView :=
  let c := s.channel ch
  match c with
  | .idle => ⟨c, none, none, none, none⟩
  | .starting b t => ⟨c, some b, some (s.secondsLeft t), none, none⟩
  | .granted b t => ⟨c, some b, some (s.secondsLeft t), none, none⟩
  | .drawing b t cut => ⟨c, some b, none, some (wholeSeconds (s.now - t)), some (wholeSeconds (cut - t))⟩
  | .runOn t => ⟨c, none, some (s.secondsLeft t), none, none⟩

def State.refillView (s : State) (r : Option Refill) : Option RefillView :=
  r.map fun r => ⟨r.source, s.secondsLeft r.until_⟩

def State.waterReply (s : State) : WaterReply where
  vSet := s.lm.vSet
  vRec := s.lm.vRec
  vLines := s.vLines
  vBays := s.vBays
  v0 := s.lm.v0
  freshIn := s.lm.freshIn
  discharged := s.lm.discharged
  carried := s.lm.carried
  drained := s.lm.drained
  leftSide := s.leftSide
  rightSide := s.lm.rightSide
  heldLine := s.lm.heldLine
  refills :=
    let f := s.lm.refills
    ⟨s.refillView f.s1, s.refillView f.s2, s.refillView f.s3, s.refillView f.s4, s.refillView f.s5, s.refillView f.s6⟩
  mode := s.mode
  holdOrigin := s.lm.holdOrigin
  drainPending := s.lm.drainPending.isSome
  deferralLeft := s.timerLeft s.lm.deferral
  persistLeft := s.timerLeft s.lm.persist
  reclaim := s.lm.reclaim
  strayReclaim := s.lm.strayReclaim
  dischargeOpen := s.lm.discharge.isSome
  dischargeLeft := s.timerLeft s.lm.discharge
  ch6 := s.qs.readings.getCh .ch6
  ch7 := s.qs.readings.getCh .ch7
  avail := s.avail
  daily := s.settings.dailyAllowance
  usedToday := s.bu.usedToday
  outstanding := s.outstanding
  reservationCount := (s.bu.reservations.toList.filterMap id).length
  remaining := s.remaining
  threshold := s.settings.allowanceThreshold
  belowThreshold := decide (s.remaining < s.settings.allowanceThreshold)
  supply1 := s.supplyView .supply1
  supply2 := s.supplyView .supply2
  requestSet := s.sa.priority.filter fun b => s.sa.requests.get b
  priority := s.sa.priority
  debt := s.sa.debt
  purgeTimerLeft := s.timerLeft s.sa.purgeTimer
  spacing := s.settings.spacing
  drawMax := s.settings.drawMax
  purgeCart := s.sa.purge.map (·.cart)
  purgeLeft := s.timerLeft (s.sa.purge.map (·.until_))
  pointer := s.sa.pointer
  mask := s.settings.cartMask
  leadMode := s.settings.leadMode
  cycle := if s.settings.leadMode = .fixed then some s.sa.cycle else none
  cycleLeft := s.timerLeft s.sa.cycleEnd

def Work.reqGetWater (w : Work) (body : Body Unit) : Answered := w.withBody body fun _ => w.ok (.water w.s.waterReply)

/-! ## GET_ACCOUNT (R6) -/

def Work.reqGetAccount (w : Work) (body : Body Nat) : Answered :=
  w.withBody body fun n =>
    if !within 1 max16 n then w.say .range
    else
      match w.s.account? n with
      | none => w.say .notFound
      | some a => w.ok (.account ⟨n, a, a.atLimit, w.s.visitsOf n⟩)

/-! ## GET_READING (R121) -/

def State.readingReply (s : State) (ch : Channel) : ReadingReply :=
  let r := s.qs.readings.getCh ch
  let conv : Option (Channel × Nat) := match s.qs.converter with
    | .converting c t => some (c, t)
    | _ => none
  { channel := ch, value := r.value, code := r.code, clamp := r.clamp, valid := r.valid,
    ageSeconds := r.takenAt.map fun t => (s.now - t) / 1000, stale := s.stale ch r,
    tempUsed := if ch = .ch0 then some r.tempUsed else none,
    compensated := if ch = .ch0 then some r.compensated else none,
    held := if ch = .ch1 then some s.qs.ch1Held else none,
    holdLeft := if ch = .ch1 then s.timerLeft s.qs.holdTimer else none,
    due := s.channelDue ch, waiting := s.qs.waiting ch, converting := conv.map (·.1),
    converterLeft := s.timerLeft (conv.map (·.2)), settle := s.settings.probeSettle.getCh ch,
    period := s.settings.probePeriod.getCh ch, lo := s.settings.calLo.getCh ch, hi := s.settings.calHi.getCh ch }

def Work.reqGetReading (w : Work) (body : Body Nat) : Answered :=
  w.withBody body fun n =>
    match Channel.ofNat? n with
    | none => w.say .range
    | some ch => w.ok (.reading (w.s.readingReply ch))

/-! ## SNAP_LANE (R43) -/

def LaneState.reason? : LaneState → Option RefuseReason
  | .refused r => some r
  | _ => none

def LaneState.override? : LaneState → Bool
  | .waiting _ m => m
  | _ => false

def LaneState.admitted? : LaneState → Option Nat
  | .admitted n _ => some n
  | _ => none

/-- Clear seen, present in ADMITTED alone (R43). -/
def LaneState.clearSeen? : LaneState → Option Bool
  | .admitted _ c => some c
  | _ => none

def State.laneReply (s : State) (l : Lane) : LaneReply :=
  let r := s.gu.get l
  { lane := l, state := r.state, reason := r.state.reason?, axleMode := s.settings.axleMode.get l,
    counter := r.counter, count := r.count, axleSat := r.axleSat, reverse := r.reverse, tagOver := r.tagOver,
    tags := r.tags, key := r.key, override := r.state.override?, admitted := r.state.admitted?,
    clearSeen := r.state.clearSeen?, secondsLeft := s.timerLeft (r.stall.or r.wait), takenA := r.treadleA.taken,
    takenB := r.treadleB.taken, stopBeam := r.stopBeam, clearBeam := r.clearBeam }

def Work.reqSnapLane (w : Work) (body : Body Nat) : Answered :=
  w.withBody body fun n =>
    match Lane.ofNat? n with
    | none => w.say .range
    | some l => w.ok (.lane (w.s.laneReply l))

end Sys2Proof.Machine
end

