-- ==== Sys2Proof/Machine/Tasks.lean ====
section
/-!
DEFINITION. The consequences of a command, taken one after the other until none is left (log 4), and the weight of the
work that is left: it falls with every consequence taken, so it is as many steps as the work can need (log 5).
-/

namespace Sys2Proof.Machine

open Sys2Proof

/-- What a consequence does. -/
def Work.handle (w : Work) : Task → Work
  | .matchPass => w.matchPass
  | .capacity => w.capacity
  | .retry l => w.retry l
  | .grantPass => w.grantPass
  | .purgeTest => w.purgeTest
  | .plans answers => w.takePlans answers
  | .startPhase b n => w.startPhase b n
  | .endPhase b cause abort => w.endPhase b cause abort
  | .follow b visit n cause abort => w.follow b visit n cause abort
  | .drainCheck => w.drainCheck
  | .drainCuts rest cut cause => w.drainCuts rest cut cause
  | .drainRest cut cause => w.drainRest cut cause
  | .refillChoice => w.refillChoice
  | .chooseNext afterDefault => w.upd (·.choose afterDefault)
  | .ch5 => w.airReading

/-- The next consequence is taken, and what it brings is taken before the rest (log 4). -/
def Work.next (w : Work) : Work :=
  match w.todo with
  | [] => w
  | t :: rest =>
    let v := (Work.mk w.s []).handle t
    ⟨v.s, v.todo ++ rest⟩

/-- Consequences are taken until none is left, at most so many of them. -/
def Work.run (fuel : Nat) (w : Work) : Work :=
  match fuel, w.todo with
  | 0, _ => w
  | _, [] => w
  | fuel + 1, _ :: _ => Work.run fuel w.next

/-! ## The weight of work -/

/-- The number of phases of the longest programme. -/
def State.depth (s : State) : Nat := s.dt.programmes.toList.foldr (fun p d => max (p.elim 0 (·.phases.length)) d) 0

/-- What a change of mode can bring at the blocks: at most three for a lane, seven for the calls, four for a bay, four for
the mode OPEN and two for the supply. -/
def modeWeight : Nat := 45

/-- What a running phase can bring still, itself and the phases after it. -/
def phaseWeight (depth number : Nat) : Nat := 2 + 6 * (depth - number)

def drainRestWeight : Nat := 28 + modeWeight

def drainCutsWeight (bays : Nat) : Nat := 1 + 4 * bays + drainRestWeight

def Task.weight (depth : Nat) : Task → Nat
  | .matchPass => 4
  | .capacity => 3
  | .retry _ => 1
  | .grantPass => 1
  | .purgeTest => 1
  | .plans answers => 1 + 4 * answers.length
  | .startPhase _ n => 6 + phaseWeight depth n
  | .endPhase _ _ _ => 4
  | .follow _ _ n _ _ => 1 + phaseWeight depth n
  | .drainCheck => 1
  | .drainCuts rest _ _ => drainCutsWeight rest.length
  | .drainRest _ _ => drainRestWeight
  | .refillChoice => 1
  | .chooseNext _ => 1
  | .ch5 => 1 + modeWeight

def LaneRecord.weight (r : LaneRecord) : Nat :=
  match r.state with
  | .waiting _ _ => 4
  | _ => 0

def BayRunner.weight (depth : Nat) (r : BayRunner) : Nat := r.plan.elim 0 fun p => phaseWeight depth p.number

def Arbiter.weight (a : Arbiter) : Nat := if a.purge.isNone then 25 else 0

def Loop.weight (l : Loop) : Nat :=
  (if l.drainPending.isSome then drainCutsWeight 6 else 0) + (if l.mode = .refill then modeWeight else 0)

/-- What a state can bring still: its WAITING lanes, its phases, a purge start, a pending drain, the end of REFILL. -/
def State.weight (s : State) : Nat :=
  s.gu.p1.weight + s.gu.p2.weight + (s.pr.toList.map (BayRunner.weight s.depth)).sum + s.sa.weight + s.lm.weight

def Work.weight (w : Work) : Nat := w.s.weight + (w.todo.map (Task.weight w.s.depth)).sum

/-- The state when every consequence has been taken (log 5). -/
def Work.settle (w : Work) : State := (w.run w.weight).s

/-! ## Commands -/

/-- A command's own operation on the state, then its consequences. -/
def run (s : State) (f : Work → Work) : Host.Outcome State Fault Refusal := .next (f ⟨s, []⟩).settle

/-- A timer's expiry command: it acts when the timer runs, at its time, and has no effect otherwise (log 2). -/
def onExpiry (s : State) (t : Option Nat) (f : Work → Work) : Host.Outcome State Fault Refusal :=
  match t with
  | some due => run (s.reach due) f
  | none => .next s

end Sys2Proof.Machine
end

