-- ==== Sys2Proof/Machine/Requests.lean ====
section
/-!
DEFINITION. The operating requests at their owners (R41, R57, R58, R80, R83, R134, R165, R166, R169, R187 to R189, R194,
R195, R208), the kinds of requests, and the owner of each.
-/

namespace Sys2Proof.Machine

open Sys2Proof

/-! ## Mode, clock, allowance -/

/-- SET_MODE (R169). -/
def Work.reqSetMode (w : Work) (body : Body SetMode) : Answered :=
  w.withBody body fun f =>
    match f.mode with
    | none => w.say .range
    | some .drain => (w.wantDrain f.force, .modeNow)
    | some .refill => if w.s.refillRefused then w.say .state else (w.wantMode .refill, .modeNow)
    | some m => (w.wantMode m, .modeNow)

/-- A midnight that closes a day: the Blend Unit, then the Charge Unit (R207 steps 3 and 4). -/
def State.midnight (s : State) (ended : Nat) : State := s.allowanceMidnight.closeDay ended

/-- The clock is set, its count of the second restarted (R208). -/
def State.setClock (s : State) (day time : Nat) : State := { s with clock := ⟨day, time, s.now⟩ }

/-- How far a day lies after a day, counting forward with 65,535 followed by 0 (R208). -/
def daysForward (p d : Nat) : Nat := (d + 65536 - p) % 65536

/-- SET_CLOCK (R208). -/
def Work.reqSetClock (w : Work) (body : Body SetClock) : Answered :=
  w.withBody body fun f =>
    let c := w.s.clock
    let n := daysForward c.day f.day
    if 86399 < f.time ∨ 65535 < f.day ∨ (2 ≤ n ∧ n ≤ 32767) then w.say .range
    else
      let s := if n = 1 then w.s.midnight c.day else w.s
      (w.upd fun _ => s.setClock f.day f.time).ok (.clock ⟨c.day, c.time, f.day, f.time, decide (n = 1)⟩)

def State.setAllowance (s : State) (litres : Nat) : State :=
  s.modTables fun t => { t with settings := { t.settings with dailyAllowance := litres } }

def State.allowanceReply (s : State) : AllowanceReply :=
  ⟨s.settings.dailyAllowance, s.bu.usedToday, s.outstanding, (s.bu.reservations.toList.filterMap id).length, s.remaining⟩

/-- SET_ALLOWANCE (R134). -/
def Work.reqSetAllowance (w : Work) (body : Body Nat) : Answered :=
  w.withBody body fun n =>
    if 1000000 < n then w.say .range
    else
      let w := w.upd (·.setAllowance n)
      w.ok (.allowance w.s.allowanceReply)

/-! ## Bays and visits -/

/-- BAY_SERVICE (R83). -/
def Work.reqBayService (w : Work) (body : Body BayService) : Answered :=
  w.withBody body fun f =>
    match Bay.ofNat? f.bay, f.wanted with
    | some b, some wanted => (w.serviceTaken b wanted, .serviceNow b)
    | _, _ => w.say .range

/-- RELEASE_BAY is carried out in FINISHING with the release hold set, and in STRAY (R80). -/
def BayRecord.releasable (r : BayRecord) : Bool :=
  match r.state with
  | .finishing => r.releaseHold
  | .stray => true
  | _ => false

def Work.reqReleaseBay (w : Work) (body : Body Nat) : Answered :=
  w.withBody body fun n =>
    match Bay.ofNat? n with
    | none => w.say .range
    | some b => if (w.s.bc.get b).releasable then (w.upd (·.enterReleasing b)).say .ok else w.say .state

/-- The visit that an ASSIGN_BAY makes (R58). -/
def State.assignedVisit (s : State) (f : AssignFields) : Visit :=
  s.freshVisit .host f.tags f.account f.cls f.programme (s.permitFor f.account) .inBay (some f.bay) noOtherFlags

def Work.assign (w : Work) (f : AssignFields) : Work :=
  let n := w.s.newNumber
  (w.upd fun s => s.enrol n (s.assignedVisit f)).enterWashing f.bay n

/-- ASSIGN_BAY (R58). -/
def Work.reqAssignBay (w : Work) (body : Body AssignBay) : Answered :=
  w.withBody body fun raw =>
    match checkAssign raw with
    | none => w.say .range
    | some f =>
      if f.account.any (fun n => !Table.has w.s.dt.accounts n) || !w.s.defines f.programme then w.say .notFound
      else if (w.s.bc.get f.bay).state ≠ .stray then w.say .state
      else if f.tags.any w.s.tagHeld then w.say .duplicate
      else if 32 ≤ w.s.vq.visits.length ∨ 61 < w.s.places then w.say .full
      else (w.assign f).ok (.assigned w.s.newNumber)

/-- CANCEL_VISIT (R57). -/
def Work.reqCancelVisit (w : Work) (body : Body Nat) : Answered :=
  w.withBody body fun n =>
    if n = 0 then w.say .range
    else
      match w.s.visit? n with
      | none => w.say .notFound
      | some v =>
        match v.state with
        | .queued => (w.cancel n .host).say .ok
        | .called => (w.cancel n .host).say .ok
        | _ => w.say .state

/-- ADMIT_OVERRIDE (R41). -/
def Work.reqAdmitOverride (w : Work) (body : Body Nat) : Answered :=
  w.withBody body fun n =>
    match Lane.ofNat? n with
    | none => w.say .range
    | some l =>
      match (w.s.gu.get l).state with
      | .refused _ =>
        let d := w.decideLane l true
        d.1.ok (.decision d.2)
      | _ => w.say .state

/-! ## Accounts -/

/-- SETTLE_ACCOUNT (R194). -/
def Work.reqSettle (w : Work) (body : Body SettleAccount) : Answered :=
  w.withBody body fun f =>
    if !within 1 max16 f.account || !within 1 max32 f.amount then w.say .range
    else
      match w.s.account? f.account with
      | none => w.say .notFound
      | some a =>
        let after := a.settle f.amount
        (w.upd (·.modTables fun t => { t with accounts := Table.upd t.accounts f.account (·.settle f.amount) })).ok
          (.settled (min f.amount a.balance) after.balance after.atLimit)

/-- CLOSE_PERIOD (R195). -/
def Work.reqClosePeriod (w : Work) (body : Body Unit) : Answered :=
  w.withBody body fun _ =>
    (w.upd (·.modTables fun t => { t with accounts := closePeriods t.accounts })).ok
      (.periodClosed (changedPeriods w.s.dt.accounts))

/-! ## The loop -/

def trimReply (before after : State) : TrimReply where
  oldSet := before.lm.vSet
  oldRec := before.lm.vRec
  newSet := after.lm.vSet
  newRec := after.lm.vRec
  v0 := after.lm.v0
  clamp6 := (before.qs.readings.getCh .ch6).clamp
  clamp7 := (before.qs.readings.getCh .ch7).clamp

/-- TRIM_LOOP (R166). -/
def Work.reqTrimLoop (w : Work) (body : Body Unit) : Answered :=
  w.withBody body fun _ =>
    if w.s.trimBlocked then w.say .state
    else
      let s := w.s.trim
      ({ w with s := s }.after (risen w.s s)).ok (.trimmed (trimReply w.s s))

/-- DISCHARGE (R165). -/
def Work.reqDischarge (w : Work) (body : Body Nat) : Answered :=
  w.withBody body fun n =>
    if !within 1 60000 n then w.say .range
    else
      let s := w.s.discharge n
      { w with s := s }.ok (.discharged (w.s.dischargeLitres n) s.lm.vSet)

/-! ## Collection -/

def entryCopy (e : Entry) : EntryCopy := ⟨e.seq, e.body, e.aged⟩

/-- TAKE_CHARGES (R187). -/
def Work.reqTakeCharges (w : Work) (body : Body Nat) : Answered :=
  w.withBody body fun n =>
    if !within 1 4 n then w.say .range
    else
      let taken := w.s.takeable n
      let r : ChargesReply := ⟨taken.map entryCopy, w.s.places, w.s.inRing, w.s.agedCount, w.s.cu.pendingSummary.isSome,
        w.s.inRing - (w.s.delivered + taken.length)⟩
      (w.upd (·.modLink fun l => { l with mark := l.mark + BitVec.ofNat 32 taken.length })).ok (.charges r)

/-- CONFIRM_CHARGES (R188): after a removal the pending summary is tested, then the lanes are told. -/
def Work.reqConfirmCharges (w : Work) (body : Body Seq) : Answered :=
  w.withBody body fun seq =>
    match w.s.confirmCount seq with
    | none => w.say .range
    | some 0 => w.ok (.confirmed 0 w.s.headSeq w.s.inRing w.s.agedCount)
    | some k =>
      let s := w.s.removeEntries k
      let d := ReplyData.confirmed k s.headSeq s.inRing s.agedCount
      ({ w with s := s.testPending }.after [.capacity]).ok d

/-- REWIND_CHARGES (R189). -/
def Work.reqRewindCharges (w : Work) (body : Body Unit) : Answered :=
  w.withBody body fun _ => (w.upd (·.rewindMark)).ok (.rewound w.s.headSeq w.s.inRing)

/-! ## The kinds and owners (section 11.7) -/

/-- The kind byte of a request. -/
def Request.kind : Request → Byte
  | .putClass _ => 0x01
  | .putAccount _ => 0x02
  | .dropAccount _ => 0x03
  | .putTag _ => 0x04
  | .dropTag _ => 0x05
  | .putTariff _ => 0x06
  | .putProgramme _ => 0x07
  | .setDepot _ => 0x08
  | .setMode _ => 0x10
  | .setClock _ => 0x11
  | .setAllowance _ => 0x12
  | .bayService _ => 0x13
  | .releaseBay _ => 0x14
  | .assignBay _ => 0x15
  | .cancelVisit _ => 0x16
  | .admitOverride _ => 0x17
  | .settleAccount _ => 0x18
  | .closePeriod _ => 0x19
  | .trimLoop _ => 0x1A
  | .discharge _ => 0x1B
  | .linkReset _ => 0x1C
  | .getStatus _ => 0x20
  | .getVisit _ => 0x21
  | .getQueue _ => 0x22
  | .getBay _ => 0x23
  | .getWater _ => 0x24
  | .getAccount _ => 0x25
  | .getReading _ => 0x26
  | .snapLane _ => 0x27
  | .takeCharges _ => 0x30
  | .confirmCharges _ => 0x31
  | .rewindCharges _ => 0x32
  | .unknown k => k

/-- The kind of the reply that an owner's answer takes: 0xFF for a frame of unknown kind (R200). -/
def Request.replyKind (r : Request) : Byte :=
  match r with
  | .unknown _ => 0xFF
  | _ => Sys2Proof.Machine.replyKind r.kind

/-- The kind of a BUSY answer: of a frame of unknown kind a free value (R199, log 11). -/
def Request.busyKind (r : Request) : Byte :=
  match r with
  | .unknown k => Config.busyKindOfUnknown k
  | _ => Sys2Proof.Machine.replyKind r.kind

/-- The owner takes a request (R200). A LINK_RESET in the holding list is one with a body of wrong length (R203). -/
def Work.owner (w : Work) : Request → Answered
  | .putClass b => w.reqPutClass b
  | .putAccount b => w.reqPutAccount b
  | .dropAccount b => w.reqDropAccount b
  | .putTag b => w.reqPutTag b
  | .dropTag b => w.reqDropTag b
  | .putTariff b => w.reqPutTariff b
  | .putProgramme b => w.reqPutProgramme b
  | .setDepot b => w.reqSetDepot b
  | .setMode b => w.reqSetMode b
  | .setClock b => w.reqSetClock b
  | .setAllowance b => w.reqSetAllowance b
  | .bayService b => w.reqBayService b
  | .releaseBay b => w.reqReleaseBay b
  | .assignBay b => w.reqAssignBay b
  | .cancelVisit b => w.reqCancelVisit b
  | .admitOverride b => w.reqAdmitOverride b
  | .settleAccount b => w.reqSettle b
  | .closePeriod b => w.reqClosePeriod b
  | .trimLoop b => w.reqTrimLoop b
  | .discharge b => w.reqDischarge b
  | .linkReset _ => w.say .badLength
  | .getStatus b => w.reqGetStatus b
  | .getVisit b => w.reqGetVisit b
  | .getQueue b => w.reqGetQueue b
  | .getBay b => w.reqGetBay b
  | .getWater b => w.reqGetWater b
  | .getAccount b => w.reqGetAccount b
  | .getReading b => w.reqGetReading b
  | .snapLane b => w.reqSnapLane b
  | .takeCharges b => w.reqTakeCharges b
  | .confirmCharges b => w.reqConfirmCharges b
  | .rewindCharges b => w.reqRewindCharges b
  | .unknown _ => w.say .unknownKind

/-- The code and data of a reply as it is formed (R169, R83, R200). -/
def State.formReply (s : State) : ReplyForm → ResultCode × ReplyData
  | .ready c d => (c, d)
  | .modeNow => (.ok, .mode s.mode s.lm.drainPending.isSome)
  | .serviceNow b => (.ok, .service (s.bc.get b).service)

/-- The request at the head of the holding list is carried out, and what that brings is taken; then the request leaves
the list and its reply, formed now, is queued (R200, log 6). -/
def State.carryOut (s : State) (h : Held) : State :=
  let a := (Work.mk s []).owner h.request
  let s := a.1.settle
  let cd := s.formReply a.2
  (s.modLink fun l => { l with holding := l.holding.tail }).answer ⟨h.request.replyKind, h.tag, cd.1, cd.2⟩

/-- The requests held go to their owners one after the other, while the reply queue has room (R200). -/
def State.handOn (s : State) (held : List Held) : State :=
  match held with
  | [] => s
  | h :: rest => if s.lp.replies.length < 8 then (s.carryOut h).handOn rest else s

def State.handover (s : State) : State := s.handOn s.lp.holding

end Sys2Proof.Machine
end

