-- ==== Sys2Proof/Machine/Receiver.lean ====
section
/-!
DEFINITION. The Link Port's receiver, its acceptance of requests and the link restart (R198, R199, R203).
-/

namespace Sys2Proof.Machine

open Sys2Proof

/-! ## Frames from bytes (R198) -/

/-- What the receiver makes of the line's bytes (R198). -/
inductive RxEvent
  | frame (kind tag : Byte) (body : List Byte)
  | crcError
  | framingError
deriving DecidableEq, Repr

/-- The receiver on the bytes it has: HUNT discards up to a start byte; a frame complete is handed on; after a bad length
or a bad CRC the bytes after the discarded start byte are scanned again; an incomplete frame stays in the buffer. The
first number bounds the discards: the bytes' number, plus one. -/
def scan (fuel : Nat) (buf : List Byte) : List Byte × List RxEvent :=
  match fuel, buf with
  | 0, _ => (buf, [])
  | _, [] => ([], [])
  | fuel + 1, c :: rest =>
    if c ≠ 0xC3#8 then scan fuel rest
    else
      match rest with
      | [] => (buf, [])
      | n :: more =>
        if n.toNat < 2 ∨ 242 < n.toNat then
          let r := scan fuel rest
          (r.1, .framingError :: r.2)
        else if more.length < n.toNat + 2 then (buf, [])
        else
          let inner := more.take n.toNat
          let check := (more.drop n.toNat).take 2
          if crcBytes (n :: inner) = check then
            let r := scan fuel (more.drop (n.toNat + 2))
            (r.1, .frame (inner.getD 0 0) (inner.getD 1 0) (inner.drop 2) :: r.2)
          else
            let r := scan fuel rest
            (r.1, .crcError :: r.2)

def scanAll (buf : List Byte) : List Byte × List RxEvent := scan (buf.length + 1) buf

/-! ## Link restart (R203) -/

/-- START as the part stands, for a start that touches the link alone (R205). -/
def State.linkStart (s : State) (report : StartReport) (requests notices : Nat) : StartNotice where
  report := report
  interrupted := 0
  cancelled := 0
  strays := 0
  requestsDiscarded := requests
  noticesDiscarded := notices
  mode := s.mode
  drainPending := s.lm.drainPending.isSome
  day := s.clock.day
  time := s.clock.time
  headSeq := s.headSeq
  nextSeq := s.cu.nextSeq
  entries := s.inRing
  reservations := s.cu.reservations
  pendingSummary := s.cu.pendingSummary.isSome

/-- Steps 2 to 5: the queues are emptied and the mark rewound. -/
def State.clearLink (s : State) : State :=
  (s.modLink fun l =>
    { l with holding := [], replies := [], notices := [], noticesLost := l.noticesLost || !l.notices.isEmpty }).rewindMark

/-- A link restart by LINK_RESET, its reply first, then START (R203). -/
def State.linkResetTaken (s : State) (tag : Byte) : State :=
  let requests := s.lp.holding.length
  let notices := s.lp.notices.length
  let s := s.clearLink.answer ⟨replyKind 0x1C, tag, .ok, .linkReset requests notices⟩
  s.notify (.start (s.linkStart .linkReset requests notices))

/-- A link restart by a break on the receive line (R203). -/
def State.lineBroken (s : State) : State :=
  let requests := s.lp.holding.length
  let notices := s.lp.notices.length
  let s := s.clearLink.modLink fun l => { l with rxBuf := [] }
  s.notify (.start (s.linkStart .lineBreak requests notices))

/-! ## Acceptance (R199) -/

/-- A received frame is offered to the holding list: accepted, answered BUSY, or dropped. -/
def State.offer (s : State) (tag : Byte) (r : Request) : State :=
  if s.lp.holding.length < 4 then
    (s.modLink fun l => { l with holding := l.holding ++ [⟨tag, r⟩] }).handover
  else if s.lp.replies.length < 8 then
    (s.modLink fun l => { l with busyAnswers := satAdd max16 l.busyAnswers 1 }).answer ⟨r.busyKind, tag, .busy, .none⟩
  else s.modLink fun l => { l with dropped := satAdd max16 l.dropped 1 }

/-- A LINK_RESET is taken at its reception; one whose body is not empty is held like any request (R203). -/
def State.receiveReset (s : State) (tag : Byte) (body : Body Unit) : State :=
  match body with
  | .fields _ => s.linkResetTaken tag
  | .wrongLength => s.offer tag (.linkReset body)

/-- A received frame, as the command of its request. -/
def State.receiveFrame (s : State) : Instr → State
  | .putClass t b => s.offer t (.putClass b)
  | .putAccount t b => s.offer t (.putAccount b)
  | .dropAccount t b => s.offer t (.dropAccount b)
  | .putTag t b => s.offer t (.putTag b)
  | .dropTag t b => s.offer t (.dropTag b)
  | .putTariff t b => s.offer t (.putTariff b)
  | .putProgramme t b => s.offer t (.putProgramme b)
  | .setDepot t b => s.offer t (.setDepot b)
  | .setMode t b => s.offer t (.setMode b)
  | .setClock t b => s.offer t (.setClock b)
  | .setAllowance t b => s.offer t (.setAllowance b)
  | .bayService t b => s.offer t (.bayService b)
  | .releaseBay t b => s.offer t (.releaseBay b)
  | .assignBay t b => s.offer t (.assignBay b)
  | .cancelVisit t b => s.offer t (.cancelVisit b)
  | .admitOverride t b => s.offer t (.admitOverride b)
  | .settleAccount t b => s.offer t (.settleAccount b)
  | .closePeriod t b => s.offer t (.closePeriod b)
  | .trimLoop t b => s.offer t (.trimLoop b)
  | .discharge t b => s.offer t (.discharge b)
  | .linkReset t b => s.receiveReset t b
  | .getStatus t b => s.offer t (.getStatus b)
  | .getVisit t b => s.offer t (.getVisit b)
  | .getQueue t b => s.offer t (.getQueue b)
  | .getBay t b => s.offer t (.getBay b)
  | .getWater t b => s.offer t (.getWater b)
  | .getAccount t b => s.offer t (.getAccount b)
  | .getReading t b => s.offer t (.getReading b)
  | .snapLane t b => s.offer t (.snapLane b)
  | .takeCharges t b => s.offer t (.takeCharges b)
  | .confirmCharges t b => s.offer t (.confirmCharges b)
  | .rewindCharges t b => s.offer t (.rewindCharges b)
  | .unknownKind t k => s.offer t (.unknown k)
  | _ => s

def State.countFraming (s : State) : State :=
  s.modLink fun l => { l with framingErrors := satAdd max16 l.framingErrors 1 }

def State.countCrc (s : State) : State := s.modLink fun l => { l with crcErrors := satAdd max16 l.crcErrors 1 }

def State.receiveOne (s : State) : RxEvent → State
  | .frame kind tag body => s.receiveFrame (decodeFrame kind tag body)
  | .crcError => s.countCrc
  | .framingError => s.countFraming

/-- What the receiver made of the bytes, one after the other, each settled before the next. -/
def State.receive (s : State) (events : List RxEvent) : State := events.foldl State.receiveOne s

/-- The line's bytes up to here (R198). -/
def State.lineBytes (s : State) (bytes : List Byte) : State :=
  let r := scanAll (s.lp.rxBuf ++ bytes)
  (s.modLink fun l => { l with rxBuf := r.1 }).receive r.2

/-- A gap of more than 50 ms after these bytes: a frame in progress is discarded (R198). -/
def State.lineGap (s : State) (bytes : List Byte) : State :=
  let r := scanAll (s.lp.rxBuf ++ bytes)
  (s.modLink fun l => { l with rxBuf := [] }).receive (r.2 ++ if r.1.isEmpty then [] else [.framingError])

/-- A frame's transmission has ended: the next begins, and a request that waited for room is handed on (R200, R201). -/
def State.frameSent (s : State) : State :=
  match s.lp.tx with
  | some _ => (s.modLink fun l => ({ l with tx := none } : Link).pump).handover
  | none => s

end Sys2Proof.Machine
end

