-- ==== Sys2Proof/Machine/Starts.lean ====
section
/-!
DEFINITION. Cold start and warm restart (R19, R20, R44, R63, R64, R87, R88, R107, R122, R138, R158, R159, R177, R196,
R197, R204 to R206, R209).
-/

namespace Sys2Proof.Machine

open Sys2Proof

/-- A cold start: every block at its cold values, START, and the converter's first choice. The queue of commands and the
count of free values are the model's own and stay. -/
def State.coldStart (s : State) (levels : FieldLevels) : State :=
  let c := { State.cold levels with pending := s.pending, freshCounter := s.freshCounter }
  (c.notify (.start coldStartNotice)).choose false

/-! ## What a warm restart keeps -/

/-- A kept phase plan (R107): its times banked, the volatile fields lost. -/
def PhaseRun.kept (p : PhaseRun) (now : Nat) : PhaseRun :=
  { p.bank now with
    stage := .paused, since := 0, grant := none, requested := false, freshOpen := false, recycledOpen := false,
    gen := ⟨.idle, 0, none, 0⟩, sweepPos := 0 }

def BayRunner.kept (r : BayRunner) (now : Nat) : BayRunner := ⟨r.plan.map (·.kept now), 0⟩

/-- A kept entry: its held time as whole seconds, resumed on the new timebase (R197, R206, log 21). -/
def Entry.kept (e : Entry) (now : Nat) : Entry :=
  { e with heldMs := e.held now / 1000 * 1000, heldSince := 0 }

/-- A summary of the posting list and the pending summary, merged (R197). -/
def mergeSummaries (listed pending : Option Summary) : Option Summary :=
  match listed, pending with
  | some l, some p => some ⟨l.first, p.last, l.counts.add p.counts⟩
  | some l, none => some l
  | none, p => p

def PostItem.summary? : PostItem → Option Summary
  | .summary x => some x
  | _ => none

/-- The Charge Unit at a warm restart, before the bays hand over (R197). -/
def Charges.kept (c : Charges) (now : Nat) : Charges :=
  { c with
    ring := { c.ring with entries := c.ring.entries.map (·.kept now) }
    pendingSummary := mergeSummaries (c.posting.findSome? PostItem.summary?) c.pendingSummary
    posting := []
    writing := none }

/-- The Supply Arbiter after a warm restart, at timebase 0 (R159). -/
def warmArbiter (t : Settings) (m : DepotMode) : Arbiter :=
  { coldArbiter with
    debt := 1
    purgeTimer := if circulates m then some (1000 * t.spacing) else none
    cycleEnd := if t.leadMode = .fixed then some (1000 * t.drawMax) else none }

/-- The loop at a warm restart (R177). -/
def Loop.kept (l : Loop) : Loop :=
  { l with deferral := none, persist := none, refills := Six.all none, discharge := none, strayReclaim := 0 }

/-- A bay at a warm restart, before it is rebuilt (R88): CLOSED, or FINISHING where it holds a visit (log 12). -/
def BayRecord.kept (r : BayRecord) (l : BayLevels) : BayRecord :=
  { coldBay l with
    state := if r.held.isSome then .finishing else .closed
    service := r.service, lineFilled := r.lineFilled, held := r.held }

/-- Every block reset at timebase 0, the retained state kept. -/
def State.warmBase (s : State) (levels : FieldLevels) : State :=
  { s with
    now := 0
    clock := { s.clock with secondBase := 0 }
    lp := startLink s.headSeq .warm
    gu := ⟨startLane levels.lanes.p1, startLane levels.lanes.p2⟩
    bc := ⟨s.bc.s1.kept levels.bays.s1, s.bc.s2.kept levels.bays.s2, s.bc.s3.kept levels.bays.s3,
      s.bc.s4.kept levels.bays.s4, s.bc.s5.kept levels.bays.s5, s.bc.s6.kept levels.bays.s6⟩
    pr := ⟨s.pr.s1.kept s.now, s.pr.s2.kept s.now, s.pr.s3.kept s.now, s.pr.s4.kept s.now, s.pr.s5.kept s.now,
      s.pr.s6.kept s.now⟩
    qs := startSampler
    sa := warmArbiter s.settings s.mode
    lm := s.lm.kept
    cu := s.cu.kept s.now }

/-! ## START (R205) -/

/-- The number of bays that a warm restart rebuilds as STRAY. -/
def State.strayCount (s : State) : Nat := (s.bc.toList.filter fun r => r.held.isNone && r.seated).length

/-- START of a warm restart, its counts of what the restart does. Its pending-summary field is read when the posting list's
summary has become the pending one (R197), before the test of R193 (the model's choice, log 46). -/
def State.warmStartNotice (s : State) (cause : RestartCause) : StartNotice :=
  { s.linkStart (.warm cause) 0 0 with
    interrupted := (s.vq.visits.filter fun v => decide (v.2.state = .inBay)).length
    cancelled := s.vq.called.length + s.vq.queue.length - 24
    strays := s.strayCount }

/-! ## The steps of the blocks -/

/-- Every kept phase ends INTERRUPTED, in ascending bay number (R107). -/
def Work.interruptPhases (w : Work) : Work := Bay.all.foldl (fun w b => w.endPhase b .interrupted false) w

def Visit.interrupt (v : Visit) : Visit :=
  match v.state with
  | .inBay => { v with state := .interrupted }
  | .called => { v with state := .queued, bay := none }
  | _ => v

/-- Steps 1 and 2 of R64. -/
def State.returnCalled (s : State) : State :=
  { s with vq := { s.vq with
      visits := s.vq.visits.map fun v => (v.1, v.2.interrupt)
      queue := s.vq.called ++ s.vq.queue
      called := [] } }

/-- A queued visit is cancelled with cause RESTART. The pending summary is not tested at it, as R193 has it for a
cancellation, but once, when the posting list is rebuilt (R197; the model's choice, log 45). -/
def State.cancelRestart (s : State) (n : Nat) : State :=
  match s.visit? n with
  | some v => (s.modQueue (without n)).cancelled n v .queued none .restart
  | none => s

/-- Step 3 of R64: an overfull queue is cut from its tail, the newest first. -/
def State.cutQueue (s : State) : State := (s.vq.queue.drop 24).reverse.foldl State.cancelRestart s

/-- The nine bay states in the order of their table. -/
def bayStateAt (n : Fin 9) : BayState :=
  match n with
  | 0 => .closed
  | 1 => .refilling
  | 2 => .empty
  | 3 => .called
  | 4 => .seating
  | 5 => .washing
  | 6 => .finishing
  | 7 => .releasing
  | 8 => .stray

/-- The rest test of a bay whose state was lost: what it left is a free value (R88, log 12). -/
def Work.restTestLost (w : Work) (b : Bay) (released : Option Nat) : Work :=
  (w.restTestFrom b (bayStateAt (Config.stateLeftAtRestart b.num w.s.freshCounter)) released).upd (·.useFresh)

/-- A bay that holds a visit is rebuilt (R88). -/
def Work.rebuildHeld (w : Work) (b : Bay) (n : Nat) (v : Visit) : Work :=
  match v.state, v.posted with
  | .interrupted, _ =>
    w.upd fun s => (s.modVisit n fun v => { v with endCause := some .interrupted }).handOver n
  | _, none => w.upd (·.handOver n)
  | _, some _ =>
    if (w.s.bc.get b).clear then
      ((w.closeVisit n).upd (·.modBay b fun r => { r with held := none })).restTestLost b (some n)
    else w.upd (·.modBay b fun r => { r with releaseHold := true })

/-- A bay is rebuilt (R88). -/
def Work.rebuildBay (w : Work) (b : Bay) : Work :=
  let r := w.s.bc.get b
  match r.held with
  | some n =>
    match w.s.visit? n with
    | some v => w.rebuildHeld b n v
    | none => w
  | none =>
    if r.seated then
      w.upd fun s => (s.modBay b fun r => { r with state := .stray }).notify (.stray b r.wheelStop r.rearBeam true)
    else w.restTestLost b none

/-- A drain kept pending is entered, and a kept REFILL makes its choice (R177). -/
def Work.resumeMode (w : Work) : Work :=
  match w.s.lm.drainPending with
  | some cause => w.enterDrain cause
  | none => w.after [.refillChoice]

/-- A warm restart: START, then the steps of the blocks, whose notices follow it (R205). -/
def Work.warmRestart (w : Work) (cause : RestartCause) (levels : FieldLevels) : Work :=
  let w := w.upd fun s => (s.warmBase levels).decideReclaim
  let w := w.upd fun s => s.notify (.start (s.warmStartNotice cause))
  let w := w.interruptPhases
  let w := w.upd fun s => s.returnCalled.cutQueue
  let w := Bay.all.foldl Work.rebuildBay w
  let w := w.upd fun s => s.testPending.startWrite.chooseIfIdle
  (w.after [.matchPass, .purgeTest]).resumeMode

end Sys2Proof.Machine
end

