-- ==== Sys2Proof/Machine/EventRows.lean ====
section
/-!
DEFINITION. The meanings of the rows that are no requests: link events, starts, lane, bay, phase, sampler, supply, loop,
charge and clock events.
-/

namespace Sys2Proof.Machine

open Sys2Proof

/-! ## Link events (R198, R201, R203) -/

/-- The line's bytes up to the last CRC byte of a frame (R198). -/
def execFrameReceived (bytes : List Byte) (s : State) : Host.Outcome State Fault Refusal := .next (s.lineBytes bytes)

/-- A gap of more than 50 ms inside a frame (R198). -/
def execInterByteGap (bytes : List Byte) (s : State) : Host.Outcome State Fault Refusal := .next (s.lineGap bytes)

/-- A break of more than 1 s on the receive line (R203). -/
def execLineBreak (s : State) : Host.Outcome State Fault Refusal := .next s.lineBroken

/-- The end of a frame's transmission (R201). -/
def execFrameSent (s : State) : Host.Outcome State Fault Refusal := .next s.frameSent

/-- A length byte outside 2..242 (R198). -/
def execBadLengthByte (bytes : List Byte) (s : State) : Host.Outcome State Fault Refusal := .next (s.lineBytes bytes)

/-! ## Starts -/

/-- Cold start (R19, R204, R205). -/
def execColdStart (levels : FieldLevels) (s : State) : Host.Outcome State Fault Refusal :=
  .next (s.coldStart levels)

/-- Warm restart (R20, R64, R88, R205). -/
def execWarmRestart (cause : RestartCause) (levels : FieldLevels) (s : State) : Host.Outcome State Fault Refusal :=
  run s (·.warmRestart cause levels)

/-! ## Lane events -/

/-- A treadle's raw level (R21). -/
def execTreadleLevelChange (lane : Lane) (treadle : Treadle) (on : Bool) (s : State) :
    Host.Outcome State Fault Refusal :=
  run s (·.upd fun s => s.modLane lane fun r =>
    r.setTreadle treadle ((r.treadle treadle).rawChange on (s.now + s.settings.debounce)))

/-- The debounce window runs out: the change is taken, and is a lane event (R21, R22). -/
def execDebounceExpiry (lane : Lane) (treadle : Treadle) (s : State) : Host.Outcome State Fault Refusal :=
  onExpiry s ((s.gu.get lane).treadle treadle).window fun w =>
    (w.upd fun s => s.modLane lane (·.take (s.settings.axleMode.get lane) treadle)).treadleEvent lane

/-- A change of the stop beam (R22, R29). -/
def execStopBeamChange (lane : Lane) (active : Bool) (s : State) : Host.Outcome State Fault Refusal :=
  if (s.gu.get lane).stopBeam = active then .next s
  else run s fun w => (w.upd (·.modLane lane fun r => { r with stopBeam := active })).stopBeamEvent lane active

/-- A change of the clear beam (R22, R32). -/
def execClearBeamChange (lane : Lane) (active : Bool) (s : State) : Host.Outcome State Fault Refusal :=
  if (s.gu.get lane).clearBeam = active then .next s
  else run s (·.upd fun s => (s.modLane lane fun r => { r with clearBeam := active }).clearBeamEvent lane active)

/-- A programme key is pressed (R27). -/
def execKeypadPress (lane : Lane) (key : Prog) (s : State) : Host.Outcome State Fault Refusal :=
  run s (·.keyEvent lane key)

/-- A tag-read record; number 0 is discarded (R22, R26). -/
def execTagRead (lane : Lane) (number : TagNo) (s : State) : Host.Outcome State Fault Refusal :=
  if number = 0 then .next s else run s (·.tagEvent lane number)

/-- The stall timer expires: LANE_STALL, and the lane is cleared (R30). -/
def execStallExpiry (lane : Lane) (s : State) : Host.Outcome State Fault Refusal :=
  onExpiry s (s.gu.get lane).stall fun w =>
    w.upd fun s =>
      let r := s.gu.get lane
      (s.notify (.laneStall ⟨lane, decide (r.state ≠ .occupied), r.count, r.tags.length⟩)).clearLane lane

/-- The wait timer expires: the lane is REFUSED with FULL (R31). -/
def execWaitExpiry (lane : Lane) (s : State) : Host.Outcome State Fault Refusal :=
  onExpiry s (s.gu.get lane).wait fun w => w.upd fun s => s.refuse lane .full (s.gu.get lane).state.override?

/-- The barrier's open pulse of 1 s ends (R32). -/
def execEntryBarrierPulseEnd (lane : Lane) (s : State) : Host.Outcome State Fault Refusal :=
  onExpiry s (s.gu.get lane).barrierPulse (·.upd (·.modLane lane fun r => { r with barrierPulse := none }))

/-! ## Bay events -/

def BayRecord.setSensor (r : BayRecord) (p : Presence) (active : Bool) : BayRecord :=
  match p with
  | .wheelStop => { r with wheelStop := active }
  | .rearBeam => { r with rearBeam := active }

def BayRecord.sensor (r : BayRecord) : Presence → Bool
  | .wheelStop => r.wheelStop
  | .rearBeam => r.rearBeam

/-- A change of a presence sensor (R65). -/
def execPresenceSensorChange (bay : Bay) (sensor : Presence) (active : Bool) (s : State) :
    Host.Outcome State Fault Refusal :=
  if (s.bc.get bay).sensor sensor = active then .next s
  else run s fun w => (w.upd (·.modBay bay (·.setSensor sensor active))).sensorEvent bay

/-- A press of the exit button (R65, R75, R81, R82). -/
def execExitButtonPress (bay : Bay) (s : State) : Host.Outcome State Fault Refusal :=
  match (s.bc.get bay).state with
  | .washing => run s (·.cutWash bay .cutExit .exit)
  | .releasing => run s (·.upd fun s => s.modBay bay fun r => { r with exitPulse := some (s.due 10) })
  | .stray => run s (·.upd (·.enterReleasing bay))
  | _ => .next s

/-- The call timer expires: the visit is a no-show (R54, R70, R72). -/
def execCallTimerExpiry (bay : Bay) (s : State) : Host.Outcome State Fault Refusal :=
  onExpiry s (s.bc.get bay).callTimer fun w =>
    match (w.s.bc.get bay).called with
    | some n => w.noShow bay n
    | none => w.upd (·.modBay bay fun r => { r with callTimer := none })

/-- The settle has run out (R72). -/
def execSettleTimerExpiry (bay : Bay) (s : State) : Host.Outcome State Fault Refusal :=
  onExpiry s (s.bc.get bay).settleTimer (·.settled bay)

/-- The presence-loss filter of 2 s expires: the wash is ABANDONED (R76). -/
def execLossFilterExpiry (bay : Bay) (s : State) : Host.Outcome State Fault Refusal :=
  onExpiry s (s.bc.get bay).lossFilter (·.cutWash bay .abandoned .abandoned)

/-- The exit pulse runs out: the exit barrier shuts (R81). -/
def execExitPulseExpiry (bay : Bay) (s : State) : Host.Outcome State Fault Refusal :=
  onExpiry s (s.bc.get bay).exitPulse (·.upd (·.modBay bay fun r => { r with exitPulse := none }))

/-- The exit stall timer expires (R81). -/
def execExitStallExpiry (bay : Bay) (s : State) : Host.Outcome State Fault Refusal :=
  onExpiry s (s.bc.get bay).exitStall fun w =>
    w.upd fun s =>
      (s.modBay bay fun r => { r with exitStall := none, lastFault := .exitStall }).notify
        (.exitStall bay (s.bc.get bay).held)

/-- The sensor timer expires (R73). -/
def execSensorTimerExpiry (bay : Bay) (s : State) : Host.Outcome State Fault Refusal :=
  onExpiry s (s.bc.get bay).sensorTimer fun w =>
    w.upd fun s =>
      (s.modBay bay fun r => { r with sensorTimer := none, lastFault := .sensor }).bayNotice bay .empty none

/-! ## Phase events -/

/-- A pulse of a bay's meter (R92). -/
def execMeterPulse (bay : Bay) (meter : Meter) (s : State) : Host.Outcome State Fault Refusal := run s (·.pulse bay meter)

/-- The time limit of a running phase (R94, R100). -/
def execPhaseTimeLimit (bay : Bay) (s : State) : Host.Outcome State Fault Refusal :=
  match s.plan? bay with
  | some p =>
    if p.stage = .running then run (s.reach p.limitAt) (·.endPhase bay (limitCause p) false) else .next s
  | none => .next s

/-- The wait limit of a paused phase (R96). -/
def execWaitLimit (bay : Bay) (s : State) : Host.Outcome State Fault Refusal :=
  match s.plan? bay with
  | some p =>
    if p.stage = .paused then run (s.reach p.waitLimitAt) (·.endPhase bay .waitLimit false) else .next s
  | none => .next s

/-- A time of the nozzle generator runs out (R102). -/
def execNozzleTimeout (bay : Bay) (s : State) : Host.Outcome State Fault Refusal :=
  onExpiry s ((s.plan? bay).bind fun p => p.gen.due) (·.upd fun s => s.modPlan bay (·.nozzleMove s.now))

/-! ## Sampler events -/

/-- The settle time of a conversion runs out, and the converter samples a code (R111). -/
def execConversionCompletion (code : BitVec 10) (s : State) : Host.Outcome State Fault Refusal :=
  match s.qs.converter with
  | .converting ch t => run (s.reach t) (·.completeConversion ch code)
  | _ => .next s

/-- A channel's age reaches its background period: an idle converter chooses (R112). An invalid reading has no age
(R108), so the row has no effect on it (log 2). -/
def execBackgroundPeriodDue (channel : Channel) (s : State) : Host.Outcome State Fault Refusal :=
  let r := s.qs.readings.getCh channel
  match r.valid, r.takenAt with
  | true, some t => run (s.reach (t + 1000 * s.settings.probePeriod.getCh channel)) (·.upd (·.chooseIfIdle))
  | _, _ => .next s

/-- The turbidity hold ends (R118). -/
def execHoldTimerExpiry (s : State) : Host.Outcome State Fault Refusal :=
  onExpiry s s.qs.holdTimer (·.upd (·.endHold))

/-! ## Supply events -/

/-- The pump start lead runs out (R143). -/
def execPumpStartLeadExpiry (supply : Supply) (s : State) : Host.Outcome State Fault Refusal :=
  match s.channel supply with
  | .starting b t => run (s.reach t) (·.upd (·.grant supply b))
  | _ => .next s

/-- The grant timer runs out (R144, R95). -/
def execGrantTimeout (supply : Supply) (s : State) : Host.Outcome State Fault Refusal :=
  match s.channel supply with
  | .granted b t => run (s.reach t) (·.grantTimeout supply b)
  | _ => .next s

/-- A draw reaches its cut time (R145). -/
def execDrawMaxCut (supply : Supply) (s : State) : Host.Outcome State Fault Refusal :=
  match s.channel supply with
  | .drawing b _ cut => run (s.reach cut) (·.cutDraw supply b)
  | _ => .next s

/-- The run-on timer runs out: the pump stops, and a grant pass is made (R142, R146). -/
def execRunOnExpiry (supply : Supply) (s : State) : Host.Outcome State Fault Refusal :=
  match s.channel supply with
  | .runOn t => run (s.reach t) fun w => (w.upd (·.setChannel supply .idle)).after [.grantPass]
  | _ => .next s

/-- The purge timer runs out (R147). -/
def execPurgeTimerExpiry (s : State) : Host.Outcome State Fault Refusal := onExpiry s s.sa.purgeTimer (·.purgeTimer)

/-- The purge duration runs out (R151). -/
def execPurgeCompletion (s : State) : Host.Outcome State Fault Refusal :=
  match s.sa.purge with
  | some p => run (s.reach p.until_) (·.completePurge p.cart)
  | none => .next s

/-- The end of a WINDOW (R154). -/
def execWindowEnd (s : State) : Host.Outcome State Fault Refusal :=
  if s.sa.cycle = .window then onExpiry s s.sa.cycleEnd (·.endWindow) else .next s

/-- The end of a SLOT (R154). -/
def execSlotEnd (s : State) : Host.Outcome State Fault Refusal :=
  if s.sa.cycle = .slot then onExpiry s s.sa.cycleEnd (·.endSlot) else .next s

/-! ## Loop events -/

/-- A pulse of the reclaim meter (R164). -/
def execReclaimPulse (s : State) : Host.Outcome State Fault Refusal := run s (·.reclaimPulse)

/-- The discharge valve's closing time (R165). -/
def execDischargeValveClose (s : State) : Host.Outcome State Fault Refusal :=
  onExpiry s s.lm.discharge (·.upd (·.modLoop fun l => { l with discharge := none }))

/-- A bay's refill completes (R167). -/
def execRefillCompletion (bay : Bay) (s : State) : Host.Outcome State Fault Refusal :=
  match s.lm.refills.get bay with
  | some r => run (s.reach r.until_) (·.refillDone bay r)
  | none => .next s

/-- The persist timer runs out (R171). -/
def execPersistTimerExpiry (s : State) : Host.Outcome State Fault Refusal := onExpiry s s.lm.persist (·.persistExpiry)

/-- The deferral timer runs out: DRAIN is entered, running phases cut (R173). -/
def execDeferralExpiry (s : State) : Host.Outcome State Fault Refusal :=
  onExpiry s s.lm.deferral (·.enterDrain .deferral)

/-! ## Charge and clock events -/

/-- The retained store reports a write completion (R184, R192). -/
def execWriteCompletion (s : State) : Host.Outcome State Fault Refusal := run s (·.completeWrite)

/-- An entry's held time reaches the charge hold (R190). -/
def execAgeing (seq : Seq) (s : State) : Host.Outcome State Fault Refusal :=
  match s.cu.ring.entries.find? fun e => decide (e.seq = seq) && !e.aged with
  | some e => run (s.reach (s.agesAt e)) (·.upd (·.age e))
  | none => .next s

/-- The time of day advances, with a midnight where it would pass 86,399 (R207). -/
def State.tick (s : State) : State :=
  let c := s.clock
  if c.time < 86399 then { s with clock := { c with time := c.time + 1, secondBase := c.secondBase + 1000 } }
  else { s with clock := ⟨dayAfter c.day, 0, c.secondBase + 1000⟩ }.midnight c.day

/-- A whole second has passed since the clock was last set or advanced (R207). -/
def execClockSecond (s : State) : Host.Outcome State Fault Refusal :=
  run (s.reach (s.clock.secondBase + 1000)) (·.upd (·.tick))

end Sys2Proof.Machine
end

