-- ==== Sys2Proof/Machine/RequestRows.lean ====
section
/-!
DEFINITION. The meanings of the request rows: the reception of a good frame of the kind (R199, R200, log 3). The owner's
part of each stands in Tables.lean, Queries.lean and Requests.lean.
-/

namespace Sys2Proof.Machine

open Sys2Proof

/-- PUT_CLASS (R2). -/
def execPutClass (tag : Byte) (body : Body PutClass) (s : State) : Host.Outcome State Fault Refusal :=
  .next (s.offer tag (.putClass body))

/-- PUT_ACCOUNT (R4). -/
def execPutAccount (tag : Byte) (body : Body PutAccount) (s : State) : Host.Outcome State Fault Refusal :=
  .next (s.offer tag (.putAccount body))

/-- DROP_ACCOUNT (R5). -/
def execDropAccount (tag : Byte) (body : Body Nat) (s : State) : Host.Outcome State Fault Refusal :=
  .next (s.offer tag (.dropAccount body))

/-- PUT_TAG (R8). -/
def execPutTag (tag : Byte) (body : Body PutTag) (s : State) : Host.Outcome State Fault Refusal :=
  .next (s.offer tag (.putTag body))

/-- DROP_TAG (R9). -/
def execDropTag (tag : Byte) (body : Body TagNo) (s : State) : Host.Outcome State Fault Refusal :=
  .next (s.offer tag (.dropTag body))

/-- PUT_TARIFF (R10). -/
def execPutTariff (tag : Byte) (body : Body PutTariff) (s : State) : Host.Outcome State Fault Refusal :=
  .next (s.offer tag (.putTariff body))

/-- PUT_PROGRAMME (R13). -/
def execPutProgramme (tag : Byte) (body : Body PutProgramme) (s : State) : Host.Outcome State Fault Refusal :=
  .next (s.offer tag (.putProgramme body))

/-- SET_DEPOT (R16). -/
def execSetDepot (tag : Byte) (body : Body SetDepot) (s : State) : Host.Outcome State Fault Refusal :=
  .next (s.offer tag (.setDepot body))

/-- SET_MODE (R169). -/
def execSetMode (tag : Byte) (body : Body SetMode) (s : State) : Host.Outcome State Fault Refusal :=
  .next (s.offer tag (.setMode body))

/-- SET_CLOCK (R208). -/
def execSetClock (tag : Byte) (body : Body SetClock) (s : State) : Host.Outcome State Fault Refusal :=
  .next (s.offer tag (.setClock body))

/-- SET_ALLOWANCE (R134). -/
def execSetAllowance (tag : Byte) (body : Body Nat) (s : State) : Host.Outcome State Fault Refusal :=
  .next (s.offer tag (.setAllowance body))

/-- BAY_SERVICE (R83). -/
def execBayService (tag : Byte) (body : Body BayService) (s : State) : Host.Outcome State Fault Refusal :=
  .next (s.offer tag (.bayService body))

/-- RELEASE_BAY (R80). -/
def execReleaseBay (tag : Byte) (body : Body Nat) (s : State) : Host.Outcome State Fault Refusal :=
  .next (s.offer tag (.releaseBay body))

/-- ASSIGN_BAY (R58). -/
def execAssignBay (tag : Byte) (body : Body AssignBay) (s : State) : Host.Outcome State Fault Refusal :=
  .next (s.offer tag (.assignBay body))

/-- CANCEL_VISIT (R57). -/
def execCancelVisit (tag : Byte) (body : Body Nat) (s : State) : Host.Outcome State Fault Refusal :=
  .next (s.offer tag (.cancelVisit body))

/-- ADMIT_OVERRIDE (R41). -/
def execAdmitOverride (tag : Byte) (body : Body Nat) (s : State) : Host.Outcome State Fault Refusal :=
  .next (s.offer tag (.admitOverride body))

/-- SETTLE_ACCOUNT (R194). -/
def execSettleAccount (tag : Byte) (body : Body SettleAccount) (s : State) : Host.Outcome State Fault Refusal :=
  .next (s.offer tag (.settleAccount body))

/-- CLOSE_PERIOD (R195). -/
def execClosePeriod (tag : Byte) (body : Body Unit) (s : State) : Host.Outcome State Fault Refusal :=
  .next (s.offer tag (.closePeriod body))

/-- TRIM_LOOP (R166). -/
def execTrimLoop (tag : Byte) (body : Body Unit) (s : State) : Host.Outcome State Fault Refusal :=
  .next (s.offer tag (.trimLoop body))

/-- DISCHARGE (R165). -/
def execDischarge (tag : Byte) (body : Body Nat) (s : State) : Host.Outcome State Fault Refusal :=
  .next (s.offer tag (.discharge body))

/-- LINK_RESET is taken at its reception: the receive buffer is emptied, and the link restarted. One whose body is not
empty is held like any request and restarts nothing (R203). -/
def execLinkReset (tag : Byte) (body : Body Unit) (s : State) : Host.Outcome State Fault Refusal :=
  match body with
  | .fields _ => .next ((s.modLink fun l => { l with rxBuf := [] }).receiveReset tag body)
  | .wrongLength => .next (s.receiveReset tag body)

/-- GET_STATUS (R202). -/
def execGetStatus (tag : Byte) (body : Body Unit) (s : State) : Host.Outcome State Fault Refusal :=
  .next (s.offer tag (.getStatus body))

/-- GET_VISIT (R61). -/
def execGetVisit (tag : Byte) (body : Body GetVisit) (s : State) : Host.Outcome State Fault Refusal :=
  .next (s.offer tag (.getVisit body))

/-- GET_QUEUE (R62). -/
def execGetQueue (tag : Byte) (body : Body Unit) (s : State) : Host.Outcome State Fault Refusal :=
  .next (s.offer tag (.getQueue body))

/-- GET_BAY (R86). -/
def execGetBay (tag : Byte) (body : Body Nat) (s : State) : Host.Outcome State Fault Refusal :=
  .next (s.offer tag (.getBay body))

/-- GET_WATER (R176). -/
def execGetWater (tag : Byte) (body : Body Unit) (s : State) : Host.Outcome State Fault Refusal :=
  .next (s.offer tag (.getWater body))

/-- GET_ACCOUNT (R6). -/
def execGetAccount (tag : Byte) (body : Body Nat) (s : State) : Host.Outcome State Fault Refusal :=
  .next (s.offer tag (.getAccount body))

/-- GET_READING (R121). -/
def execGetReading (tag : Byte) (body : Body Nat) (s : State) : Host.Outcome State Fault Refusal :=
  .next (s.offer tag (.getReading body))

/-- SNAP_LANE (R43). -/
def execSnapLane (tag : Byte) (body : Body Nat) (s : State) : Host.Outcome State Fault Refusal :=
  .next (s.offer tag (.snapLane body))

/-- TAKE_CHARGES (R187). -/
def execTakeCharges (tag : Byte) (body : Body Nat) (s : State) : Host.Outcome State Fault Refusal :=
  .next (s.offer tag (.takeCharges body))

/-- CONFIRM_CHARGES (R188). -/
def execConfirmCharges (tag : Byte) (body : Body Seq) (s : State) : Host.Outcome State Fault Refusal :=
  .next (s.offer tag (.confirmCharges body))

/-- REWIND_CHARGES (R189). -/
def execRewindCharges (tag : Byte) (body : Body Unit) (s : State) : Host.Outcome State Fault Refusal :=
  .next (s.offer tag (.rewindCharges body))

/-- A frame whose kind is no request kind (R199, R200). -/
def execUnknownKind (tag kind : Byte) (s : State) : Host.Outcome State Fault Refusal :=
  .next (s.offer tag (.unknown kind))

end Sys2Proof.Machine
end

