-- ==== Sys2Proof/Machine/Dispatch.lean ====
section
/-!
DEFINITION. The meaning of every command: one arm per constructor of Instr.
-/

namespace Sys2Proof.Machine

open Sys2Proof

def exec (i : Instr) (s : State) : Host.Outcome State Fault Refusal :=
  match i with
  | .putClass tag body => Sys2Proof.Machine.execPutClass tag body s
  | .putAccount tag body => Sys2Proof.Machine.execPutAccount tag body s
  | .dropAccount tag body => Sys2Proof.Machine.execDropAccount tag body s
  | .putTag tag body => Sys2Proof.Machine.execPutTag tag body s
  | .dropTag tag body => Sys2Proof.Machine.execDropTag tag body s
  | .putTariff tag body => Sys2Proof.Machine.execPutTariff tag body s
  | .putProgramme tag body => Sys2Proof.Machine.execPutProgramme tag body s
  | .setDepot tag body => Sys2Proof.Machine.execSetDepot tag body s
  | .setMode tag body => Sys2Proof.Machine.execSetMode tag body s
  | .setClock tag body => Sys2Proof.Machine.execSetClock tag body s
  | .setAllowance tag body => Sys2Proof.Machine.execSetAllowance tag body s
  | .bayService tag body => Sys2Proof.Machine.execBayService tag body s
  | .releaseBay tag body => Sys2Proof.Machine.execReleaseBay tag body s
  | .assignBay tag body => Sys2Proof.Machine.execAssignBay tag body s
  | .cancelVisit tag body => Sys2Proof.Machine.execCancelVisit tag body s
  | .admitOverride tag body => Sys2Proof.Machine.execAdmitOverride tag body s
  | .settleAccount tag body => Sys2Proof.Machine.execSettleAccount tag body s
  | .closePeriod tag body => Sys2Proof.Machine.execClosePeriod tag body s
  | .trimLoop tag body => Sys2Proof.Machine.execTrimLoop tag body s
  | .discharge tag body => Sys2Proof.Machine.execDischarge tag body s
  | .linkReset tag body => Sys2Proof.Machine.execLinkReset tag body s
  | .getStatus tag body => Sys2Proof.Machine.execGetStatus tag body s
  | .getVisit tag body => Sys2Proof.Machine.execGetVisit tag body s
  | .getQueue tag body => Sys2Proof.Machine.execGetQueue tag body s
  | .getBay tag body => Sys2Proof.Machine.execGetBay tag body s
  | .getWater tag body => Sys2Proof.Machine.execGetWater tag body s
  | .getAccount tag body => Sys2Proof.Machine.execGetAccount tag body s
  | .getReading tag body => Sys2Proof.Machine.execGetReading tag body s
  | .snapLane tag body => Sys2Proof.Machine.execSnapLane tag body s
  | .takeCharges tag body => Sys2Proof.Machine.execTakeCharges tag body s
  | .confirmCharges tag body => Sys2Proof.Machine.execConfirmCharges tag body s
  | .rewindCharges tag body => Sys2Proof.Machine.execRewindCharges tag body s
  | .unknownKind tag kind => Sys2Proof.Machine.execUnknownKind tag kind s
  | .frameReceived bytes => Sys2Proof.Machine.execFrameReceived bytes s
  | .interByteGap bytes => Sys2Proof.Machine.execInterByteGap bytes s
  | .lineBreak => Sys2Proof.Machine.execLineBreak s
  | .frameSent => Sys2Proof.Machine.execFrameSent s
  | .coldStart levels => Sys2Proof.Machine.execColdStart levels s
  | .warmRestart cause levels => Sys2Proof.Machine.execWarmRestart cause levels s
  | .treadleLevelChange lane treadle on => Sys2Proof.Machine.execTreadleLevelChange lane treadle on s
  | .debounceExpiry lane treadle => Sys2Proof.Machine.execDebounceExpiry lane treadle s
  | .stopBeamChange lane active => Sys2Proof.Machine.execStopBeamChange lane active s
  | .clearBeamChange lane active => Sys2Proof.Machine.execClearBeamChange lane active s
  | .keypadPress lane key => Sys2Proof.Machine.execKeypadPress lane key s
  | .tagRead lane number => Sys2Proof.Machine.execTagRead lane number s
  | .stallExpiry lane => Sys2Proof.Machine.execStallExpiry lane s
  | .waitExpiry lane => Sys2Proof.Machine.execWaitExpiry lane s
  | .entryBarrierPulseEnd lane => Sys2Proof.Machine.execEntryBarrierPulseEnd lane s
  | .presenceSensorChange bay sensor active => Sys2Proof.Machine.execPresenceSensorChange bay sensor active s
  | .exitButtonPress bay => Sys2Proof.Machine.execExitButtonPress bay s
  | .callTimerExpiry bay => Sys2Proof.Machine.execCallTimerExpiry bay s
  | .settleTimerExpiry bay => Sys2Proof.Machine.execSettleTimerExpiry bay s
  | .lossFilterExpiry bay => Sys2Proof.Machine.execLossFilterExpiry bay s
  | .exitPulseExpiry bay => Sys2Proof.Machine.execExitPulseExpiry bay s
  | .exitStallExpiry bay => Sys2Proof.Machine.execExitStallExpiry bay s
  | .sensorTimerExpiry bay => Sys2Proof.Machine.execSensorTimerExpiry bay s
  | .meterPulse bay meter => Sys2Proof.Machine.execMeterPulse bay meter s
  | .phaseTimeLimit bay => Sys2Proof.Machine.execPhaseTimeLimit bay s
  | .waitLimit bay => Sys2Proof.Machine.execWaitLimit bay s
  | .nozzleTimeout bay => Sys2Proof.Machine.execNozzleTimeout bay s
  | .conversionCompletion code => Sys2Proof.Machine.execConversionCompletion code s
  | .backgroundPeriodDue channel => Sys2Proof.Machine.execBackgroundPeriodDue channel s
  | .holdTimerExpiry => Sys2Proof.Machine.execHoldTimerExpiry s
  | .pumpStartLeadExpiry supply => Sys2Proof.Machine.execPumpStartLeadExpiry supply s
  | .grantTimeout supply => Sys2Proof.Machine.execGrantTimeout supply s
  | .drawMaxCut supply => Sys2Proof.Machine.execDrawMaxCut supply s
  | .runOnExpiry supply => Sys2Proof.Machine.execRunOnExpiry supply s
  | .purgeTimerExpiry => Sys2Proof.Machine.execPurgeTimerExpiry s
  | .purgeCompletion => Sys2Proof.Machine.execPurgeCompletion s
  | .windowEnd => Sys2Proof.Machine.execWindowEnd s
  | .slotEnd => Sys2Proof.Machine.execSlotEnd s
  | .reclaimPulse => Sys2Proof.Machine.execReclaimPulse s
  | .dischargeValveClose => Sys2Proof.Machine.execDischargeValveClose s
  | .refillCompletion bay => Sys2Proof.Machine.execRefillCompletion bay s
  | .persistTimerExpiry => Sys2Proof.Machine.execPersistTimerExpiry s
  | .deferralExpiry => Sys2Proof.Machine.execDeferralExpiry s
  | .writeCompletion => Sys2Proof.Machine.execWriteCompletion s
  | .ageing seq => Sys2Proof.Machine.execAgeing seq s
  | .clockSecond => Sys2Proof.Machine.execClockSecond s
  | .badLengthByte bytes => Sys2Proof.Machine.execBadLengthByte bytes s

end Sys2Proof.Machine
end

