-- ==== Sys2Proof/Safety.lean ====
section
/-!
DEFINITION. The invariants of the part: the balance law of the loop with what it rests on, the bounds of the link's
queues, the canonical form of the tables, the bounds of the lanes, the purge debt and the priority order.
-/

namespace Sys2Proof.Safety

open Sys2Proof Sys2Proof.Machine

/-- The balance law (R160): V_set + V_rec + V_lines + V_bays is V0 + F - D - K - L. -/
def Balanced (s : State) : Prop := s.leftSide = s.lm.rightSide

/-- A bay whose line-filled flag is clear holds no line water, and a bay with a refill in flight has the flag clear
(R167, R168): the balance law rests on it. -/
def LinesTold (s : State) : Prop :=
  ∀ b : Bay,
    ((s.bc.get b).lineFilled = false → s.lm.heldLine.get b = 0) ∧
      (s.lm.refills.get b ≠ none → (s.bc.get b).lineFilled = false)

/-- The carry-off is a per-mille figure (R15, R98). -/
def CarryOffFits (s : State) : Prop := s.settings.carryOff ≤ 1000

/-- The book of the loop. -/
def LoopSound (s : State) : Prop := Balanced s ∧ LinesTold s ∧ CarryOffFits s

/-- The link's queues: at most 4 requests held (R199), at most 16 notices waiting (R201), and with no frame in
transmission nothing waits (R201). -/
def LinkSound (s : State) : Prop :=
  s.lp.holding.length ≤ 4 ∧ s.lp.notices.length ≤ 16 ∧
    (s.lp.tx = none → s.lp.replies = [] ∧ s.lp.notices = [])

/-- The keyed tables stand in their one canonical form: keys strictly rising. -/
def TablesSound (s : State) : Prop :=
  Table.wf s.dt.accounts = true ∧ Table.wf s.dt.tags = true ∧ Table.wf s.vq.visits = true

/-- The lanes: an axle count of at most 15 and at most four tags, all different (R25, R26). -/
def LanesSound (s : State) : Prop :=
  ∀ l : Lane, (s.gu.get l).count ≤ 15 ∧ (s.gu.get l).tags.length ≤ 4 ∧ (s.gu.get l).tags.Nodup

/-- The purge debt is at most 3 (R147), and the priority order holds every bay once (R141). -/
def SupplySound (s : State) : Prop := s.sa.debt ≤ 3 ∧ s.sa.priority.Perm Bay.all

/-- The invariant of the part. -/
def Inv (s : State) : Prop := LoopSound s ∧ LinkSound s ∧ TablesSound s ∧ LanesSound s ∧ SupplySound s

/-! ## Requests -/

/-- The tag and the request of a command that is offered to the holding list: every request row, a LINK_RESET only with
a body of wrong length (R203), and a frame of unknown kind (R199). -/
def asRequest : Instr → Option (Byte × Request)
  | .putClass t b => some (t, .putClass b)
  | .putAccount t b => some (t, .putAccount b)
  | .dropAccount t b => some (t, .dropAccount b)
  | .putTag t b => some (t, .putTag b)
  | .dropTag t b => some (t, .dropTag b)
  | .putTariff t b => some (t, .putTariff b)
  | .putProgramme t b => some (t, .putProgramme b)
  | .setDepot t b => some (t, .setDepot b)
  | .setMode t b => some (t, .setMode b)
  | .setClock t b => some (t, .setClock b)
  | .setAllowance t b => some (t, .setAllowance b)
  | .bayService t b => some (t, .bayService b)
  | .releaseBay t b => some (t, .releaseBay b)
  | .assignBay t b => some (t, .assignBay b)
  | .cancelVisit t b => some (t, .cancelVisit b)
  | .admitOverride t b => some (t, .admitOverride b)
  | .settleAccount t b => some (t, .settleAccount b)
  | .closePeriod t b => some (t, .closePeriod b)
  | .trimLoop t b => some (t, .trimLoop b)
  | .discharge t b => some (t, .discharge b)
  | .linkReset t .wrongLength => some (t, .linkReset .wrongLength)
  | .getStatus t b => some (t, .getStatus b)
  | .getVisit t b => some (t, .getVisit b)
  | .getQueue t b => some (t, .getQueue b)
  | .getBay t b => some (t, .getBay b)
  | .getWater t b => some (t, .getWater b)
  | .getAccount t b => some (t, .getAccount b)
  | .getReading t b => some (t, .getReading b)
  | .snapLane t b => some (t, .snapLane b)
  | .takeCharges t b => some (t, .takeCharges b)
  | .confirmCharges t b => some (t, .confirmCharges b)
  | .rewindCharges t b => some (t, .rewindCharges b)
  | .unknownKind t k => some (t, .unknown k)
  | _ => none

/-- The rows of the request kinds with a body of wrong length, each with its kind (section 11.7). -/
def wrongLengths (tag : Byte) : List (Instr × Byte) :=
  [(.putClass tag .wrongLength, 0x01), (.putAccount tag .wrongLength, 0x02), (.dropAccount tag .wrongLength, 0x03),
   (.putTag tag .wrongLength, 0x04), (.dropTag tag .wrongLength, 0x05), (.putTariff tag .wrongLength, 0x06),
   (.putProgramme tag .wrongLength, 0x07), (.setDepot tag .wrongLength, 0x08), (.setMode tag .wrongLength, 0x10),
   (.setClock tag .wrongLength, 0x11), (.setAllowance tag .wrongLength, 0x12), (.bayService tag .wrongLength, 0x13),
   (.releaseBay tag .wrongLength, 0x14), (.assignBay tag .wrongLength, 0x15), (.cancelVisit tag .wrongLength, 0x16),
   (.admitOverride tag .wrongLength, 0x17)] ++
  [(.settleAccount tag .wrongLength, 0x18), (.closePeriod tag .wrongLength, 0x19), (.trimLoop tag .wrongLength, 0x1A),
   (.discharge tag .wrongLength, 0x1B), (.linkReset tag .wrongLength, 0x1C), (.getStatus tag .wrongLength, 0x20),
   (.getVisit tag .wrongLength, 0x21), (.getQueue tag .wrongLength, 0x22), (.getBay tag .wrongLength, 0x23),
   (.getWater tag .wrongLength, 0x24), (.getAccount tag .wrongLength, 0x25), (.getReading tag .wrongLength, 0x26),
   (.snapLane tag .wrongLength, 0x27), (.takeCharges tag .wrongLength, 0x30), (.confirmCharges tag .wrongLength, 0x31),
   (.rewindCharges tag .wrongLength, 0x32)]

/-! ## Bodies in range, and what is stored of them -/

/-- A phase record of a PUT_PROGRAMME body with every field in its range (R12, R13). -/
def PhaseInRange (f : PhaseBody) : Prop :=
  (f.kind = some .wet ∧ 10 ≤ f.volume ∧ f.volume ≤ 2000 ∨ f.kind = some .dry ∧ f.volume = 0) ∧
    (30 ≤ f.timeLimit ∧ f.timeLimit ≤ 1800) ∧ (100 ≤ f.condLimit ∧ f.condLimit ≤ 20000) ∧ f.turbLimit ≤ 500 ∧
    f.cap ≤ 1000 ∧ (100 ≤ f.relax ∧ f.relax ≤ 200) ∧ f.weight ≤ 100 ∧ f.nozzleDelay ≤ 600 ∧
    (1 ≤ f.nozzleOn ∧ f.nozzleOn ≤ 100) ∧ (2 ≤ f.nozzleFrame ∧ f.nozzleFrame ≤ 200) ∧ f.nozzleOn < f.nozzleFrame ∧
    (1 ≤ f.framesPerSegment ∧ f.framesPerSegment ≤ 20) ∧ f.sweepMode ≠ none ∧
    (f.sweepGroup = 4 ∨ f.sweepGroup = 8 ∨ f.sweepGroup = 16) ∧ f.startSegment ≤ 23 ∧ f.onStale ≠ none ∧
    f.onClamp ≠ none ∧ f.onFresh ≠ none ∧ f.onFilter ≠ none

/-- A stored phase record is the body's, field by field. -/
def PhaseStored (f : PhaseBody) (r : PhaseRecord) : Prop :=
  f.kind = some r.kind ∧ r.volume = f.volume ∧ r.timeLimit = f.timeLimit ∧ r.condLimit = f.condLimit ∧
    r.turbLimit = f.turbLimit ∧ r.cap = f.cap ∧ r.relax = f.relax ∧ r.weight = f.weight ∧
    r.nozzleDelay = f.nozzleDelay ∧ r.nozzleOn = f.nozzleOn ∧ r.nozzleFrame = f.nozzleFrame ∧
    r.framesPerSegment = f.framesPerSegment ∧ f.sweepMode = some r.sweepMode ∧ r.sweepGroup = f.sweepGroup ∧
    r.startSegment = f.startSegment ∧ f.onStale = some r.onStale ∧ f.onClamp = some r.onClamp ∧
    f.onFresh = some r.onFresh ∧ f.onFilter = some r.onFilter

/-- A SET_DEPOT body with every field in its range (R15) and every cross-field condition met (R16). -/
def DepotInRange (f : SetDepot) : Prop :=
  (f.casualAdmission ≠ none ∧ (1 ≤ f.casualClass ∧ f.casualClass ≤ 8) ∧ (∀ l : Lane, f.axleMode.get l ≠ none) ∧
    f.debounce ∈ [4, 8, 16, 32, 64, 128] ∧ (30 ≤ f.laneStall ∧ f.laneStall ≤ 600)) ∧
  ((∀ b : Bay, 4 ≤ f.maxSegments.get b ∧ f.maxSegments.get b ≤ 24) ∧
    (∀ b : Bay, 20 ≤ f.lineVolume.get b ∧ f.lineVolume.get b ≤ 400) ∧ (60 ≤ f.callTimeout ∧ f.callTimeout ≤ 900) ∧
    (1 ≤ f.seatingSettle ∧ f.seatingSettle ≤ 10)) ∧
  ((2 ≤ f.grantTimeout ∧ f.grantTimeout ≤ 30) ∧ f.startLead ≤ 15 ∧ f.runOn ≤ 300 ∧
    (1200 ≤ f.filterInterval ∧ f.filterInterval ≤ 14400) ∧ (60 ≤ f.purgeDuration ∧ f.purgeDuration ≤ 300) ∧
    (50 ≤ f.purgeVolume ∧ f.purgeVolume ≤ 500) ∧ f.strayCarts = false ∧ f.leadMode ≠ none) ∧
  ((1000 ≤ f.pitCapacity ∧ f.pitCapacity ≤ 60000) ∧ (1000 ≤ f.tankCapacity ∧ f.tankCapacity ≤ 60000) ∧
    (50 ≤ f.reserveFloor ∧ f.reserveFloor ≤ 10000) ∧ f.lowMark ≤ 60000 ∧ f.highMark ≤ 60000 ∧ f.carryOff ≤ 200 ∧
    f.allowanceThreshold ≤ 1000000) ∧
  (f.autoFrost ≠ none ∧ (-10 ≤ f.holdThreshold ∧ f.holdThreshold ≤ 10) ∧
    (-20 ≤ f.drainThreshold ∧ f.drainThreshold ≤ 5) ∧ (300 ≤ f.persistTime ∧ f.persistTime ≤ 7200) ∧
    (300 ≤ f.deferralMax ∧ f.deferralMax ≤ 3600) ∧ (1 ≤ f.chargeHold ∧ f.chargeHold ≤ 72)) ∧
  (∀ ch : Channel, f.probeSettle.getCh ch ∈ [1, 2, 4, 8] ∧
    (10 ≤ f.probePeriod.getCh ch ∧ f.probePeriod.getCh ch ≤ 600) ∧
    (-100000 ≤ f.calLo.getCh ch ∧ f.calLo.getCh ch ≤ 100000) ∧
    (-100000 ≤ f.calHi.getCh ch ∧ f.calHi.getCh ch ≤ 100000)) ∧
  (f.purgeVolume ≤ f.reserveFloor ∧ f.reserveFloor < f.tankCapacity ∧ f.highMark ≤ f.tankCapacity ∧
    f.lowMark < f.pitCapacity ∧ f.drainThreshold < f.holdThreshold ∧ f.cartMask ≠ ⟨false, false, false, false⟩ ∧
    ∀ ch : Channel, f.calLo.getCh ch < f.calHi.getCh ch)

/-- The stored settings are the body's, field by field, with the daily allowance as it was (R16). -/
def DepotStored (f : SetDepot) (daily : Nat) (n : Settings) : Prop :=
  (f.casualAdmission = some n.casualAdmission ∧ Cls.ofNat? f.casualClass = some n.casualClass ∧
    (∀ l : Lane, f.axleMode.get l = some (n.axleMode.get l)) ∧ n.debounce = f.debounce ∧ n.laneStall = f.laneStall) ∧
  (n.maxSegments = f.maxSegments ∧ n.lineVolume = f.lineVolume ∧ n.callTimeout = f.callTimeout ∧
    n.seatingSettle = f.seatingSettle) ∧
  (n.grantTimeout = f.grantTimeout ∧ n.startLead = f.startLead ∧ n.runOn = f.runOn ∧
    n.filterInterval = f.filterInterval ∧ n.purgeDuration = f.purgeDuration ∧ n.purgeVolume = f.purgeVolume ∧
    n.cartMask = f.cartMask ∧ f.leadMode = some n.leadMode) ∧
  (n.pitCapacity = f.pitCapacity ∧ n.tankCapacity = f.tankCapacity ∧ n.reserveFloor = f.reserveFloor ∧
    n.lowMark = f.lowMark ∧ n.highMark = f.highMark ∧ n.carryOff = f.carryOff ∧ n.dailyAllowance = daily ∧
    n.allowanceThreshold = f.allowanceThreshold) ∧
  (f.autoFrost = some n.autoFrost ∧ n.holdThreshold = f.holdThreshold ∧ n.drainThreshold = f.drainThreshold ∧
    n.persistTime = f.persistTime ∧ n.deferralMax = f.deferralMax ∧ n.chargeHold = f.chargeHold) ∧
  (n.probeSettle = f.probeSettle ∧ n.probePeriod = f.probePeriod ∧ n.calLo = f.calLo ∧ n.calHi = f.calHi)

/-! ## States that the statements name -/

/-- The link takes a request at once: nothing is held, and the reply queue has room (R199, R200). -/
def LinkReady (s : State) : Prop := s.lp.holding = [] ∧ s.lp.replies.length < 8

/-- No bay is in EMPTY, so no matching pass calls a visit (R51). -/
def NoEmptyBay (s : State) : Prop := ∀ b : Bay, (s.bc.get b).state ≠ .empty

/-- No lane is in WAITING, so a capacity event brings no retry (R39). -/
def NoWaitingLane (s : State) : Prop := s.waitingLanes = []

/-- No demand stands at the sampler (R113). -/
def NoDemand (s : State) : Prop := ∀ b : Bay, s.qs.demands.get b = none

/-- No phase runs in any bay. -/
def NoPhase (s : State) : Prop := ∀ b : Bay, s.plan? b = none

/-- Every lane is IDLE, so a change of mode brings no decision (R34). -/
def LanesIdle (s : State) : Prop := ∀ l : Lane, (s.gu.get l).state = .idle

/-- No visit is queued and none is called. -/
def NoCall (s : State) : Prop := s.vq.queue = [] ∧ s.vq.called = []

/-- The rest test leaves every bay in OPEN and in HOLD as it is: an EMPTY bay is in service with its lines filled, and a
CLOSED one is out of service (R66). -/
def BaysSteady (s : State) : Prop :=
  ∀ b : Bay, ((s.bc.get b).state = .empty → (s.bc.get b).service = .inService ∧ (s.bc.get b).lineFilled = true) ∧
    ((s.bc.get b).state = .closed → (s.bc.get b).service = .outOfService)

/-- No request for a draw stands and no purge is due, so a grant pass and a purge start test change nothing. -/
def SupplyCalm (s : State) : Prop := s.sa.requests = Six.all false ∧ s.sa.debt = 0

/-- A grant pass on the arbiter `a`, its channels IDLE, leaves `c` (R142, R143): of two bays asking before any other in the
priority order the first has channel 1 and the second channel 2, a bay asking alone has channel 1, each STARTING until
`lead`; a bay served leaves the request set and goes to the end of the order; with no bay asking nothing changes. -/
def PassServes (a : Arbiter) (lead : Nat) (c : Arbiter) : Prop :=
  (∀ (b d : Bay) (x y z : List Bay), a.priority = x ++ b :: (y ++ d :: z) →
    (∀ e ∈ x ++ y, a.requests.get e = false) → a.requests.get b = true → a.requests.get d = true →
    c = { a with
      channels := ⟨.starting b lead, .starting d lead⟩
      requests := (a.requests.set b false).set d false
      priority := x ++ y ++ z ++ [b, d] }) ∧
  (∀ (b : Bay) (x y : List Bay), a.priority = x ++ b :: y → a.requests = (Six.all false).set b true →
    c = { a with
      channels := ⟨.starting b lead, .idle⟩
      requests := Six.all false
      priority := x ++ y ++ [b] }) ∧
  (a.requests = Six.all false → c = a)

/-! ## The close of a charge day -/

/-- The charge day of `s` has closed in `t` with DAY_CLOSED `nt` (R192): the pending summary with the totals added, or a new
one from them, joins the posting list where it holds no summary and at most 62 places are in use (and is written at once
where nothing else waits), and else is pending; the totals restart. -/
def DayClosed (s t : State) (nt : DayClosedNotice) : Prop :=
  ∃ x : Summary,
    (s.cu.pendingSummary = none → x = ⟨s.cu.firstDay, s.clock.day, s.cu.totals⟩) ∧
    (∀ y, s.cu.pendingSummary = some y → x = ⟨y.first, s.clock.day,
      ⟨min 4294967295 (y.counts.visits + s.cu.totals.visits), min 4294967295 (y.counts.net + s.cu.totals.net),
       min 4294967295 (y.counts.fresh + s.cu.totals.fresh), min 4294967295 (y.counts.recycled + s.cu.totals.recycled),
       min 4294967295 (y.counts.discharged + s.cu.totals.discharged),
       min 4294967295 (y.counts.purges + s.cu.totals.purges)⟩⟩) ∧
    ((∀ y, PostItem.summary y ∉ s.cu.posting) → s.places ≤ 62 →
      t.cu.posting = s.cu.posting ++ [.summary x] ∧ t.cu.pendingSummary = none ∧ nt.joined = true ∧
      (s.cu.posting = [] → s.cu.writing = none → t.cu.writing = some .summary) ∧
      (s.cu.writing ≠ none → t.cu.writing = s.cu.writing)) ∧
    ((∃ y, PostItem.summary y ∈ s.cu.posting) ∨ 62 < s.places →
      t.cu.posting = s.cu.posting ∧ t.cu.pendingSummary = some x ∧ nt.joined = false ∧ t.cu.writing = s.cu.writing) ∧
    nt.ended = s.clock.day ∧ nt.first = x.first ∧ nt.last = s.clock.day ∧ nt.places = s.places ∧
    t.cu.totals = ⟨0, 0, 0, 0, 0, 0⟩ ∧ t.cu.ring = s.cu.ring ∧ t.cu.nextSeq = s.cu.nextSeq ∧
    t.cu.reservations = s.cu.reservations

end Sys2Proof.Safety
end

