-- ==== Sys2Proof/WellFormed.lean ====
section
/-!
DEFINITION. The commands that can arise: a request's fields fit the widths that carry them in its body (R210), and a tag
record carries a 40-bit number (R8). A field that fits its width may still lie outside its range: that is RANGE, the
owner's answer, and no matter of this file.
-/

namespace Sys2Proof

/-- A number fits `k` bytes. -/
def fits (k n : Nat) : Bool := decide (n < 256 ^ k)

/-- A signed number fits `k` bytes. -/
def fitsInt (k : Nat) (z : Int) : Bool :=
  decide (-(256 ^ k : Nat) ≤ 2 * z) && decide (2 * z < (256 ^ k : Nat))

def PutClass.wf (f : PutClass) : Bool := fits 1 f.cls && fits 1 f.length && fits 1 f.axles && fits 2 f.factor

def PutAccount.wf (f : PutAccount) : Bool := fits 2 f.number && fits 1 f.tariff && fits 1 f.programme && fits 4 f.credit

def PutTag.wf (f : PutTag) : Bool := fits 5 f.tag && fits 2 f.account && fits 1 f.cls

def Tier.wf (t : Tier) : Bool := fits 2 t.threshold && fits 1 t.discount

def PutTariff.wf (f : PutTariff) : Bool :=
  fits 1 f.number && f.prices.toList.all (fits 3) && fits 3 f.axleRate && fits 3 f.freshRate && f.tier1.wf &&
    f.tier2.wf && f.tier3.wf

def PhaseBody.wf (f : PhaseBody) : Bool :=
  fits 2 f.volume && fits 2 f.timeLimit && fits 2 f.condLimit && fits 2 f.turbLimit && fits 2 f.cap && fits 1 f.relax &&
    fits 1 f.weight && fits 2 f.nozzleDelay && fits 1 f.nozzleOn && fits 1 f.nozzleFrame && fits 1 f.framesPerSegment &&
    fits 1 f.sweepGroup && fits 1 f.startSegment

/-- A body of 240 bytes carries at most 9 records of 25 bytes behind its fixed part. -/
def PutProgramme.wf (f : PutProgramme) : Bool :=
  fits 1 f.number && fits 2 f.includedFresh && decide (f.phases.length ≤ 9) && f.phases.all (·.wf)

def SetDepot.wf (f : SetDepot) : Bool :=
  fits 1 f.casualClass && fits 1 f.debounce && fits 4 f.laneStall && f.maxSegments.toList.all (fits 1) &&
    f.lineVolume.toList.all (fits 2) && fits 4 f.callTimeout && fits 4 f.seatingSettle && fits 4 f.grantTimeout &&
    fits 4 f.startLead && fits 4 f.runOn && fits 4 f.filterInterval && fits 4 f.purgeDuration && fits 2 f.purgeVolume &&
    fits 2 f.pitCapacity && fits 2 f.tankCapacity && fits 2 f.reserveFloor && fits 2 f.lowMark && fits 2 f.highMark &&
    fits 1 f.carryOff && fits 3 f.allowanceThreshold && fitsInt 1 f.holdThreshold && fitsInt 1 f.drainThreshold &&
    fits 4 f.persistTime && fits 4 f.deferralMax && fits 1 f.chargeHold && f.probeSettle.toList.all (fits 4) &&
    f.probePeriod.toList.all (fits 4) && f.calLo.toList.all (fitsInt 3) && f.calHi.toList.all (fitsInt 3)

def SetClock.wf (f : SetClock) : Bool := fits 2 f.day && fits 3 f.time

def BayService.wf (f : BayService) : Bool := fits 1 f.bay

/-- A body of 240 bytes carries at most 46 tags behind its fixed part. -/
def AssignBay.wf (f : AssignBay) : Bool :=
  fits 1 f.bay && fits 2 f.account && fits 1 f.cls && fits 1 f.programme && decide (f.tags.length ≤ 46) &&
    f.tags.all (fits 5)

def SettleAccount.wf (f : SettleAccount) : Bool := fits 2 f.account && fits 4 f.amount

def GetVisit.wf (f : GetVisit) : Bool := fits 2 f.visit && fits 1 f.firstPhase

/-- A body of wrong length carries no field to check. -/
def Body.wf {α : Type} (b : Body α) (f : α → Bool) : Bool :=
  match b with
  | .fields x => f x
  | .wrongLength => true

/-- The request kinds of section 11.7. -/
def requestKinds : List Nat :=
  [0x01, 0x02, 0x03, 0x04, 0x05, 0x06, 0x07, 0x08, 0x10, 0x11, 0x12, 0x13, 0x14, 0x15, 0x16, 0x17, 0x18, 0x19, 0x1A,
   0x1B, 0x1C] ++ [0x20, 0x21, 0x22, 0x23, 0x24, 0x25, 0x26, 0x27, 0x30, 0x31, 0x32]

/-- The commands that can arise. -/
def Instr.wf : Instr → Bool
  | .putClass _ b => b.wf (·.wf)
  | .putAccount _ b => b.wf (·.wf)
  | .dropAccount _ b => b.wf (fits 2)
  | .putTag _ b => b.wf (·.wf)
  | .dropTag _ b => b.wf (fits 5)
  | .putTariff _ b => b.wf (·.wf)
  | .putProgramme _ b => b.wf (·.wf)
  | .setDepot _ b => b.wf (·.wf)
  | .setClock _ b => b.wf (·.wf)
  | .setAllowance _ b => b.wf (fits 3)
  | .bayService _ b => b.wf (·.wf)
  | .releaseBay _ b => b.wf (fits 1)
  | .assignBay _ b => b.wf (·.wf)
  | .cancelVisit _ b => b.wf (fits 2)
  | .admitOverride _ b => b.wf (fits 1)
  | .settleAccount _ b => b.wf (·.wf)
  | .discharge _ b => b.wf (fits 2)
  | .getVisit _ b => b.wf (·.wf)
  | .getBay _ b => b.wf (fits 1)
  | .getAccount _ b => b.wf (fits 2)
  | .getReading _ b => b.wf (fits 1)
  | .snapLane _ b => b.wf (fits 1)
  | .takeCharges _ b => b.wf (fits 1)
  | .unknownKind _ k => !requestKinds.contains k.toNat
  | .tagRead _ n => fits 5 n
  | _ => true

end Sys2Proof
end

