-- ==== Sys2Proof/Certificates/Slice0/Obligations.lean ====
section
/-!
DEFINITION. The statements for the provers, from the spec's rules. `s` is the state with the command taken off its queue,
`t` the state that the command leaves. A frame is written `t = { s with ... }`: every field
not named stands as it was. `Clause.X` are the parts of a statement that has two.
-/

open Sys2Proof Sys2Proof.Machine Sys2Proof.Safety

/-! ## The step and the invariants -/

/-- A step takes the command at the front of the queue and is its meaning on the state with the queue's rest. -/
def Obligations.StepTakesTheFront : Prop :=
  ∀ (c : Instr) (s : State), step { s with pending := c :: s.pending } = exec c s

/-- With no command waiting, a step is one millisecond of the timebase and changes nothing else (the model's choice,
log 1). -/
def Obligations.IdleStepIsOneMillisecond : Prop :=
  ∀ s : State, s.pending = [] → step s = .next { s with now := s.now + 1 }

/-- No command touches the queue of commands. -/
def Obligations.ExecKeepsTheQueue : Prop :=
  ∀ (c : Instr) (s t : State), exec c s = .next t → t.pending = s.pending

/-- The invariants hold after reset. -/
def Obligations.InvAtReset : Prop := Inv State.reset

/-- The balance law of the loop (R160), with the line-filled flags it rests on, is kept by every step. -/
def Obligations.StepKeepsLoopBalance : Prop :=
  ∀ s t : State, LoopSound s → step s = .next t → LoopSound t

/-- The bounds of the holding list and the notice queue, and the idle transmitter with nothing waiting, are kept by every
step. -/
def Obligations.StepKeepsLinkBounds : Prop :=
  ∀ s t : State, LinkSound s → step s = .next t → LinkSound t

/-- The Account Table, the Tag Table and the Visit Table keep their canonical form at every step. -/
def Obligations.StepKeepsTablesCanonical : Prop :=
  ∀ s t : State, TablesSound s → step s = .next t → TablesSound t

/-- An axle count of at most 15 and at most four different tags, at each lane, are kept by every step. -/
def Clause.StepKeepsLaneBounds : Prop :=
  ∀ s t : State, LanesSound s → step s = .next t → LanesSound t

/-- A purge debt of at most 3 and a priority order that holds every bay once are kept by every step. -/
def Clause.StepKeepsSupplyOrder : Prop :=
  ∀ s t : State, SupplySound s → step s = .next t → SupplySound t

/-- Every step keeps the bounds of the lanes, and the bound of the purge debt with the priority order. -/
def Obligations.LaneAndSupplyBoundsKept : Prop := Clause.StepKeepsLaneBounds ∧ Clause.StepKeepsSupplyOrder

/-! ## Link -/

/-- The receiver makes of the bytes of an envelope the frame that was put in it, and keeps nothing back. -/
def Obligations.ReceiverReadsEnvelope : Prop :=
  ∀ (kind tag : Byte) (body : List Byte), body.length ≤ 240 →
    scanAll (envelope kind tag body) = ([], [.frame kind tag body])

/-- A frame of a kind that is no request kind, received as bytes or as its own row, is answered with kind 0xFF, the
frame's tag and UNKNOWN_KIND. -/
def Obligations.UnknownKindAnswered : Prop :=
  ∀ (kind tag : Byte) (body : List Byte) (s : State), LinkReady s →
    exec (.unknownKind tag kind) s = .next (s.answer ⟨0xFF, tag, .unknownKind, .none⟩) ∧
      (requestKinds.contains kind.toNat = false → body.length ≤ 240 → s.lp.rxBuf = [] →
        exec (.frameReceived (envelope kind tag body)) s = .next (s.answer ⟨0xFF, tag, .unknownKind, .none⟩))

/-- Every request with a body of wrong length is answered BAD_LENGTH, with its kind plus 0x80 and its tag, and nothing
else is done. -/
def Obligations.BadLengthAnswered : Prop :=
  ∀ (tag : Byte) (s : State), LinkReady s → ∀ p ∈ wrongLengths tag,
    exec p.1 s = .next (s.answer ⟨p.2 + 0x80#8, tag, .badLength, .none⟩)

/-- A request that finds 4 held is answered BUSY and counted; with 8 replies queued it is dropped and counted; one that
finds room in the holding list and no room for a reply waits there. In each case nothing is carried out. -/
def Obligations.FullHoldingListTurnsAway : Prop :=
  ∀ (i : Instr) (tag : Byte) (r : Request) (s : State), asRequest i = some (tag, r) →
    (4 ≤ s.lp.holding.length → s.lp.replies.length < 8 →
      exec i s = .next
        ({ s with lp := { s.lp with busyAnswers := min 65535 (s.lp.busyAnswers + 1) } }.answer
          ⟨r.busyKind, tag, .busy, .none⟩)) ∧
    (4 ≤ s.lp.holding.length → 8 ≤ s.lp.replies.length →
      exec i s = .next { s with lp := { s.lp with dropped := min 65535 (s.lp.dropped + 1) } }) ∧
    (s.lp.holding.length < 4 → 8 ≤ s.lp.replies.length →
      exec i s = .next { s with lp := { s.lp with holding := s.lp.holding ++ [⟨tag, r⟩] } })

/-- A link restart, by LINK_RESET or by a break of the line: the receiver, the holding list and the queues are emptied,
the delivery mark goes to the head sequence, the reply of a LINK_RESET and then START are queued, a frame in transmission
goes on to its end, and the depot is left as it is. -/
def Obligations.LinkRestartClearsTheLink : Prop :=
  ∀ (tag : Byte) (s : State),
    (∀ f, s.lp.tx = some f →
      exec (.linkReset tag (.fields ())) s = .next { s with lp := { s.lp with
        rxBuf := [], holding := [], mark := s.headSeq,
        replies := [⟨0x9C, tag, .ok, .linkReset s.lp.holding.length s.lp.notices.length⟩],
        notices := [.start (s.linkStart .linkReset s.lp.holding.length s.lp.notices.length)],
        noticesLost := s.lp.noticesLost || !s.lp.notices.isEmpty } } ∧
      exec .lineBreak s = .next { s with lp := { s.lp with
        rxBuf := [], holding := [], mark := s.headSeq, replies := [],
        notices := [.start (s.linkStart .lineBreak s.lp.holding.length s.lp.notices.length)],
        noticesLost := s.lp.noticesLost || !s.lp.notices.isEmpty } }) ∧
    (s.lp.tx = none →
      exec (.linkReset tag (.fields ())) s = .next { s with lp := { s.lp with
        rxBuf := [], holding := [], mark := s.headSeq, replies := [],
        tx := some (.reply ⟨0x9C, tag, .ok, .linkReset s.lp.holding.length s.lp.notices.length⟩),
        notices := [.start (s.linkStart .linkReset s.lp.holding.length s.lp.notices.length)],
        noticesLost := s.lp.noticesLost || !s.lp.notices.isEmpty } } ∧
      exec .lineBreak s = .next { s with lp := { s.lp with
        rxBuf := [], holding := [], mark := s.headSeq, replies := [], notices := [],
        tx := some (.notice (.start (s.linkStart .lineBreak s.lp.holding.length s.lp.notices.length))),
        noticesLost := s.lp.noticesLost || !s.lp.notices.isEmpty } })

/-- A gap inside a frame, and a length byte outside 2..242, each discard the frame and raise the framing error count by 1
(to 65535); nothing else changes. -/
def Clause.LineErrorsAreCounted : Prop :=
  ∀ (n : Byte) (more : List Byte) (s : State), s.lp.rxBuf = [] →
    (2 ≤ n.toNat → n.toNat ≤ 242 → more.length < n.toNat + 2 →
      exec (.interByteGap (0xC3#8 :: n :: more)) s =
        .next { s with lp := { s.lp with framingErrors := min 65535 (s.lp.framingErrors + 1) } }) ∧
    (n.toNat < 2 ∨ 242 < n.toNat →
      exec (.badLengthByte [0xC3#8, n]) s =
        .next { s with lp := { s.lp with framingErrors := min 65535 (s.lp.framingErrors + 1) } })

/-- At the end of a frame the transmitter takes the head of the reply queue, else the head of the notice queue, else it
is idle. -/
def Clause.TransmitterTakesRepliesFirst : Prop :=
  ∀ (s : State) (f : Frame), s.lp.tx = some f → s.lp.holding = [] →
    (∀ r rest, s.lp.replies = r :: rest →
      exec .frameSent s = .next { s with lp := { s.lp with tx := some (.reply r), replies := rest } }) ∧
    (∀ n rest, s.lp.replies = [] → s.lp.notices = n :: rest →
      exec .frameSent s = .next { s with lp := { s.lp with tx := some (.notice n), notices := rest } }) ∧
    (s.lp.replies = [] → s.lp.notices = [] → exec .frameSent s = .next { s with lp := { s.lp with tx := none } })

/-- The receiver's framing errors and the transmitter's choice. -/
def Obligations.LineErrorsAndTransmitter : Prop := Clause.LineErrorsAreCounted ∧ Clause.TransmitterTakesRepliesFirst

/-! ## Starts -/

/-- A cold start completes from every state and leaves every block at its cold values: the tables with the default
settings of R15 (R19), the lanes at the levels found (R44), the bays (R87), the phases (R107), the sampler, its converter
begun with CH0 (R122), the visits (R63), the allowance (R138), the supply (R158), the loop (R177), the charges (R196),
the link with START in transmission (R204, log 6) and the clock (R209). The drain valves are log 30's and not said. -/
def Obligations.ColdStartLeaves : Prop :=
  ∀ (levels : FieldLevels) (s : State), ∃ t, exec (.coldStart levels) s = .next t ∧
    t.dt = { classes := coldClasses, accounts := [], tags := [],
             tariffs := ⟨some ⟨Twelve.all 0, Twelve.all false, 0, 0, ⟨0, 0⟩, ⟨0, 0⟩, ⟨0, 0⟩⟩, none, none, none, none,
               none, none, none⟩,
             programmes := Twelve.all none, settings := coldSettings } ∧
    (∀ l : Lane, t.gu.get l =
      { state := .idle, treadleA := ⟨(levels.lanes.get l).treadleA, (levels.lanes.get l).treadleA, none⟩,
        treadleB := ⟨(levels.lanes.get l).treadleB, (levels.lanes.get l).treadleB, none⟩, counter := .none, count := 0,
        tags := [], key := none, axleSat := false, reverse := false, tagOver := false, stall := none, wait := none,
        barrierPulse := none, stopBeam := (levels.lanes.get l).stopBeam, clearBeam := (levels.lanes.get l).clearBeam }) ∧
    t.vq = ⟨[], [], [], 0⟩ ∧
    (∀ b : Bay, t.bc.get b =
      { state := .closed, service := .inService, lineFilled := false, held := none, called := none,
        releaseHold := false, lastFault := .none, callTimer := none, settleTimer := none, lossFilter := none,
        exitPulse := none, exitStall := none, sensorTimer := none, lamp := false,
        wheelStop := (levels.bays.get b).wheelStop, rearBeam := (levels.bays.get b).rearBeam }) ∧
    t.pr = Six.all ⟨none, 0⟩ ∧
    t.qs = { readings := Eight.all ⟨0, 0, none, false, false, 25, false⟩, converter := .converting .ch0 2000,
             demands := Six.all none, ch1Held := false, holdTimer := none } ∧
    t.bu = ⟨0, Six.all none⟩ ∧
    t.sa = { channels := ⟨.idle, .idle⟩, requests := Six.all false,
             priority := [.bay1, .bay2, .bay3, .bay4, .bay5, .bay6], debt := 0, purgeTimer := none, purge := none,
             pointer := .cart4, cycle := .window, cycleEnd := none } ∧
    t.lm = { vSet := 0, vRec := 0, heldLine := Six.all 0, v0 := 0, freshIn := 0, discharged := 0, carried := 0,
             drained := 0, mode := .closed, holdOrigin := none, drainPending := none, deferral := none, persist := none,
             reclaim := false, refills := Six.all none, discharge := none, drainValve := t.lm.drainValve,
             strayReclaim := 0 } ∧
    t.cu = { ring := ⟨0, []⟩, nextSeq := 1, reservations := 0, firstDay := 0, totals := ⟨0, 0, 0, 0, 0, 0⟩,
             pendingSummary := none, posting := [], writing := none } ∧
    t.lp = { rxBuf := [], holding := [], replies := [], notices := [],
             tx := some (.notice (.start coldStartNotice)), noticesLost := false, crcErrors := 0, framingErrors := 0,
             busyAnswers := 0, dropped := 0, mark := 1, startKind := .cold } ∧
    t.clock = ⟨0, 0, 0⟩ ∧ t.now = 0 ∧ t.pending = s.pending

/-- A warm restart of a depot that is CLOSED or in DRAIN, with no visit, no phase and no held bay: the tables, the visit
numbers, the ring, the allowance and the book are kept, the supply has one purge due, the delivery mark is at the head
sequence, the timebase starts again, and START is in transmission (log 6). -/
def Obligations.WarmRestartKeeps : Prop :=
  ∀ (cause : RestartCause) (s : State), s.lm.mode = .closed ∨ s.lm.mode = .drain → s.lm.drainPending = none →
    s.vq.visits = [] → s.vq.queue = [] → s.vq.called = [] → s.cu.pendingSummary = none → s.cu.posting = [] →
    (∀ b : Bay, s.plan? b = none ∧ (s.bc.get b).held = none ∧ (s.bc.get b).service ≠ .outPending) →
    ∃ t, exec (.warmRestart cause .quiet) s = .next t ∧
      t.dt = s.dt ∧ t.vq = s.vq ∧ t.bu = s.bu ∧
      t.cu.ring.headSlot = s.cu.ring.headSlot ∧
      t.cu.ring.entries.map (fun e => (e.seq, e.body, e.aged)) = s.cu.ring.entries.map (fun e => (e.seq, e.body, e.aged)) ∧
      t.cu.nextSeq = s.cu.nextSeq ∧ t.cu.reservations = s.cu.reservations ∧ t.cu.totals = s.cu.totals ∧
      t.cu.firstDay = s.cu.firstDay ∧ t.cu.pendingSummary = none ∧ t.cu.posting = [] ∧ t.cu.writing = none ∧
      t.lp.mark = s.headSeq ∧ t.lp.startKind = .warm ∧ t.lp.holding = [] ∧ t.lp.noticesLost = false ∧
      (∃ n, t.lp.tx = some (.notice (.start n)) ∧ n.report = .warm cause ∧ n.interrupted = 0 ∧ n.cancelled = 0 ∧
        n.strays = 0) ∧
      t.lm = { s.lm with reclaim := false, deferral := none, persist := none, refills := Six.all none,
                         discharge := none, strayReclaim := 0 } ∧
      t.sa = { channels := ⟨.idle, .idle⟩, requests := Six.all false,
               priority := [.bay1, .bay2, .bay3, .bay4, .bay5, .bay6], debt := 1, purgeTimer := none, purge := none,
               pointer := .cart4, cycle := .window, cycleEnd := t.sa.cycleEnd } ∧
      (∀ b : Bay, (t.bc.get b).service = (s.bc.get b).service ∧ (t.bc.get b).lineFilled = (s.bc.get b).lineFilled ∧
        (t.bc.get b).state = .closed ∧ (t.bc.get b).held = none ∧ t.plan? b = none) ∧
      (∀ ch : Channel, (t.qs.readings.getCh ch).valid = false) ∧ t.qs.ch1Held = false ∧
      t.clock.day = s.clock.day ∧ t.clock.time = s.clock.time ∧ t.now = 0

/-! ## Tables -/

/-- PUT_ACCOUNT: RANGE, NOT_FOUND and FULL as R4 gives; otherwise a new entry starts with balance 0, BAL_SAT clear and
period visits 0, and a present one keeps these three and has its host-written fields replaced. -/
def Obligations.AccountPut : Prop :=
  ∀ (tag : Byte) (f : PutAccount) (s : State), LinkReady s →
    (f.number = 0 ∨ 7 < f.tariff ∨ f.tariff = 0 ∨ f.programme = 0 ∨ 12 < f.programme ∨ f.status = none →
      exec (.putAccount tag (.fields f)) s = .next (s.answer ⟨0x82, tag, .range, .none⟩)) ∧
    (∀ (st : AccountStatus) (tr : Trf) (p : Prog), 1 ≤ f.number → f.number ≤ 65535 → f.credit ≤ 4294967295 →
      f.status = some st → Trf.ofNat? f.tariff = some tr → tr ≠ .tariff0 → Prog.ofNat? f.programme = some p →
      (s.dt.tariffs.getTrf tr = none ∨ s.dt.programmes.get p = none →
        exec (.putAccount tag (.fields f)) s = .next (s.answer ⟨0x82, tag, .notFound, .none⟩)) ∧
      (s.dt.tariffs.getTrf tr ≠ none → s.dt.programmes.get p ≠ none →
        (Table.look s.dt.accounts f.number = none → 256 ≤ s.dt.accounts.length →
          exec (.putAccount tag (.fields f)) s = .next (s.answer ⟨0x82, tag, .full, .none⟩)) ∧
        (Table.look s.dt.accounts f.number = none → s.dt.accounts.length < 256 →
          exec (.putAccount tag (.fields f)) s = .next ({ s with dt := { s.dt with
            accounts := Table.put s.dt.accounts f.number ⟨st, tr, p, f.credit, 0, false, 0⟩ } }.answer
              ⟨0x82, tag, .ok, .none⟩)) ∧
        (∀ a, Table.look s.dt.accounts f.number = some a →
          exec (.putAccount tag (.fields f)) s = .next ({ s with dt := { s.dt with
            accounts := Table.put s.dt.accounts f.number ⟨st, tr, p, f.credit, a.balance, a.balSat, a.periodVisits⟩ } }.answer
              ⟨0x82, tag, .ok, .none⟩))))

/-- DROP_ACCOUNT: an account that no visit holds, with no open balance, goes with all its tags; one held or owing gives
STATE. -/
def Clause.AccountDropped : Prop :=
  ∀ (tag : Byte) (n : Nat) (a : Account) (s : State), LinkReady s → 1 ≤ n → n ≤ 65535 →
    Table.look s.dt.accounts n = some a →
    ((∀ e ∈ s.vq.visits, e.2.account ≠ some n) → a.balance = 0 →
      exec (.dropAccount tag (.fields n)) s = .next ({ s with dt := { s.dt with
        accounts := Table.del s.dt.accounts n, tags := s.dt.tags.filter fun g => decide (g.2.account ≠ n) } }.answer
          ⟨0x83, tag, .ok, .none⟩)) ∧
    ((∃ e ∈ s.vq.visits, e.2.account = some n) ∨ 0 < a.balance →
      exec (.dropAccount tag (.fields n)) s = .next (s.answer ⟨0x83, tag, .state, .none⟩))

/-- PUT_TAG and DROP_TAG: a tag is put for a present account, added or replaced, and dropped whatever visit holds it. -/
def Clause.TagsPutAndDropped : Prop :=
  ∀ (tag : Byte) (s : State), LinkReady s →
    (∀ (f : PutTag) (r : Role) (c : Cls), 1 ≤ f.tag → f.tag ≤ 1099511627775 → 1 ≤ f.account → f.account ≤ 65535 →
      f.role = some r → Cls.ofNat? f.cls = some c →
      (Table.look s.dt.accounts f.account = none →
        exec (.putTag tag (.fields f)) s = .next (s.answer ⟨0x84, tag, .notFound, .none⟩)) ∧
      (Table.look s.dt.accounts f.account ≠ none →
        (Table.look s.dt.tags f.tag = none → 1024 ≤ s.dt.tags.length →
          exec (.putTag tag (.fields f)) s = .next (s.answer ⟨0x84, tag, .full, .none⟩)) ∧
        (Table.look s.dt.tags f.tag ≠ none ∨ s.dt.tags.length < 1024 →
          exec (.putTag tag (.fields f)) s = .next ({ s with dt := { s.dt with
            tags := Table.put s.dt.tags f.tag ⟨f.account, r, c⟩ } }.answer ⟨0x84, tag, .ok, .none⟩)))) ∧
    (∀ n : TagNo, n ≠ 0 →
      (Table.look s.dt.tags n = none →
        exec (.dropTag tag (.fields n)) s = .next (s.answer ⟨0x85, tag, .notFound, .none⟩)) ∧
      (Table.look s.dt.tags n ≠ none →
        exec (.dropTag tag (.fields n)) s = .next ({ s with dt := { s.dt with tags := Table.del s.dt.tags n } }.answer
          ⟨0x85, tag, .ok, .none⟩)))

/-- DROP_ACCOUNT, PUT_TAG and DROP_TAG. -/
def Obligations.AccountAndTagEntriesDropped : Prop := Clause.AccountDropped ∧ Clause.TagsPutAndDropped

/-- PUT_PROGRAMME: a body whose fields are in range (1 to 8 phases, weights that sum to 100) replaces the programme whole:
the included fresh and the phase records stored are the body's, field by field and in order. Any other body gives
RANGE. -/
def Obligations.ProgrammePut : Prop :=
  ∀ (tag : Byte) (f : PutProgramme) (s : State), LinkReady s →
    (Prog.ofNat? f.number = none ∨ f.phases = [] ∨ 8 < f.phases.length ∨ 20000 < f.includedFresh ∨
        (f.phases.map (·.weight)).sum ≠ 100 ∨ (∃ x ∈ f.phases, ¬ PhaseInRange x) →
      exec (.putProgramme tag (.fields f)) s = .next (s.answer ⟨0x87, tag, .range, .none⟩)) ∧
    (∀ n, Prog.ofNat? f.number = some n → 1 ≤ f.phases.length → f.phases.length ≤ 8 → f.includedFresh ≤ 20000 →
      (f.phases.map (·.weight)).sum = 100 → (∀ x ∈ f.phases, PhaseInRange x) →
      ∃ p : Programme, p.includedFresh = f.includedFresh ∧ List.Forall₂ PhaseStored f.phases p.phases ∧
        exec (.putProgramme tag (.fields f)) s = .next ({ s with dt := { s.dt with
          programmes := s.dt.programmes.set n (some p) } }.answer ⟨0x87, tag, .ok, .none⟩))

/-- PUT_TARIFF: with every field in range and the allowed programmes defined, all fields of the tariff are replaced;
tariff 0 stores three zero tiers whatever the body holds. -/
def Clause.TariffPut : Prop :=
  ∀ (tag : Byte) (f : PutTariff) (n : Trf) (s : State), LinkReady s → Trf.ofNat? f.number = some n →
    (∀ p : Prog, f.prices.get p ≤ 1000000) → f.strayBits = false → f.axleRate ≤ 100000 → f.freshRate ≤ 100000 →
    (∀ p : Prog, f.allowed.get p = true → s.dt.programmes.get p ≠ none) →
    (n = .tariff0 →
      exec (.putTariff tag (.fields f)) s = .next ({ s with dt := { s.dt with
        tariffs := s.dt.tariffs.setTrf n (some ⟨f.prices, f.allowed, f.axleRate, f.freshRate, ⟨0, 0⟩, ⟨0, 0⟩, ⟨0, 0⟩⟩) } }.answer
          ⟨0x86, tag, .ok, .none⟩)) ∧
    (n ≠ .tariff0 → f.tier1.discount ≤ 50 → f.tier2.discount ≤ 50 → f.tier3.discount ≤ 50 →
      f.tier1.threshold < f.tier2.threshold → f.tier2.threshold < f.tier3.threshold → f.tier3.threshold ≤ 65535 →
      exec (.putTariff tag (.fields f)) s = .next ({ s with dt := { s.dt with
        tariffs := s.dt.tariffs.setTrf n (some ⟨f.prices, f.allowed, f.axleRate, f.freshRate, f.tier1, f.tier2, f.tier3⟩) } }.answer
          ⟨0x86, tag, .ok, .none⟩)) ∧
    (n ≠ .tariff0 → f.tier2.threshold ≤ f.tier1.threshold ∨ f.tier3.threshold ≤ f.tier2.threshold →
      exec (.putTariff tag (.fields f)) s = .next (s.answer ⟨0x86, tag, .range, .none⟩))

/-- PUT_CLASS, with no visit queued: the class's three figures are replaced. -/
def Clause.ClassPut : Prop :=
  ∀ (tag : Byte) (f : PutClass) (c : Cls) (s : State), LinkReady s → s.vq.queue = [] → Cls.ofNat? f.cls = some c →
    (1 ≤ f.length → f.length ≤ 24 → 2 ≤ f.axles → f.axles ≤ 8 → 50 ≤ f.factor → f.factor ≤ 400 →
      exec (.putClass tag (.fields f)) s = .next ({ s with dt := { s.dt with
        classes := s.dt.classes.setCls c ⟨f.length, f.axles, f.factor⟩ } }.answer ⟨0x81, tag, .ok, .none⟩)) ∧
    (24 < f.length ∨ f.axles < 2 ∨ 400 < f.factor →
      exec (.putClass tag (.fields f)) s = .next (s.answer ⟨0x81, tag, .range, .none⟩))

/-- PUT_TARIFF and PUT_CLASS. -/
def Obligations.TariffAndClassPut : Prop := Clause.TariffPut ∧ Clause.ClassPut

/-- SET_DEPOT: a body with a field out of range, or with a cross-field condition failing, gives RANGE, and one that would
move the line volume of a filled bay STATE; any other replaces the record whole but for the daily allowance: every
setting stored is the body's. (With no visit queued, no request for a draw, no draw in progress, no entry in the ring and
an unchanged lead mode, so that nothing else follows at once.) -/
def Obligations.DepotSet : Prop :=
  ∀ (tag : Byte) (f : SetDepot) (s : State), LinkReady s →
    (¬ DepotInRange f →
      exec (.setDepot tag (.fields f)) s = .next (s.answer ⟨0x88, tag, .range, .none⟩)) ∧
    (DepotInRange f → ∃ n, DepotStored f s.dt.settings.dailyAllowance n ∧
      ((∃ b : Bay, (s.bc.get b).lineFilled = true ∧ f.lineVolume.get b ≠ s.dt.settings.lineVolume.get b) →
        exec (.setDepot tag (.fields f)) s = .next (s.answer ⟨0x88, tag, .state, .none⟩)) ∧
      ((∀ b : Bay, (s.bc.get b).lineFilled = true → f.lineVolume.get b = s.dt.settings.lineVolume.get b) →
        s.vq.queue = [] → s.sa.requests = Six.all false → s.sa.channels = ⟨.idle, .idle⟩ → s.cu.ring.entries = [] →
        f.leadMode = some s.dt.settings.leadMode →
        ∃ t, exec (.setDepot tag (.fields f)) s = .next t ∧ t.dt = { s.dt with settings := n } ∧
          t.lp = (s.answer ⟨0x88, tag, .ok, .none⟩).lp ∧ t.bc = s.bc ∧ t.vq = s.vq ∧ t.cu = s.cu ∧ t.pr = s.pr ∧
          t.sa = s.sa ∧ t.bu = s.bu ∧ t.clock = s.clock ∧ t.lm.vSet = s.lm.vSet ∧ t.lm.vRec = s.lm.vRec ∧
          t.lm.mode = s.lm.mode ∧ t.lm.persist = (if n.autoFrost then s.lm.persist else none) ∧
          t.qs.readings = s.qs.readings ∧
          ∀ l : Lane, (t.gu.get l).counter =
            if n.axleMode.get l = s.dt.settings.axleMode.get l then (s.gu.get l).counter else .none))

/-! ## Queries -/

/-- The queries of the whole part answer with what its blocks hold, and change nothing but the notices-lost flag that
GET_STATUS clears. GET_QUEUE gives the number of visits, every queued visit in queue order and every called one in Called
List order, each with its fields as the table has them. -/
def Obligations.StatusQueueWaterAnswered : Prop :=
  ∀ (tag : Byte) (s : State), LinkReady s →
    exec (.getStatus tag (.fields ())) s = .next ({ s with lp := { s.lp with noticesLost := false } }.answer
      ⟨0xA0, tag, .ok, .status s.statusReply⟩) ∧
    (s.statusReply.noticesLost = s.lp.noticesLost ∧ s.statusReply.mode = s.lm.mode ∧ s.statusReply.debt = s.sa.debt ∧
      s.statusReply.visits = s.vq.visits.length ∧ s.statusReply.entries = s.cu.ring.entries.length ∧
      s.statusReply.nextSeq = s.cu.nextSeq ∧ s.statusReply.vRec = s.lm.vRec ∧
      s.statusReply.secondsSinceStart = s.now / 1000) ∧
    exec (.getQueue tag (.fields ())) s = .next (s.answer ⟨0xA2, tag, .ok, .queue s.queueReply⟩) ∧
    (s.queueReply.visits = s.vq.visits.length ∧
      ((∀ n ∈ s.vq.queue, Table.look s.vq.visits n ≠ none) → s.queueReply.queued.length = s.vq.queue.length ∧
        ∀ (k n : Nat) (v : Visit), s.vq.queue[k]? = some n → Table.look s.vq.visits n = some v →
          s.queueReply.queued[k]? = some ⟨n, v.cls, v.lane, v.programme, v.noShow⟩) ∧
      ((∀ n ∈ s.vq.called, Table.look s.vq.visits n ≠ none) → s.queueReply.called.length = s.vq.called.length ∧
        ∀ (k n : Nat) (v : Visit), s.vq.called[k]? = some n → Table.look s.vq.visits n = some v →
          s.queueReply.called[k]? = some ⟨n, v.bay, v.noShow⟩)) ∧
    exec (.getWater tag (.fields ())) s = .next (s.answer ⟨0xA4, tag, .ok, .water s.waterReply⟩) ∧
    (s.waterReply.vSet = s.lm.vSet ∧ s.waterReply.vRec = s.lm.vRec ∧ s.waterReply.leftSide = s.leftSide ∧
      s.waterReply.rightSide = s.lm.rightSide ∧ s.waterReply.usedToday = s.bu.usedToday ∧
      s.waterReply.remaining = s.remaining ∧ s.waterReply.avail = s.avail ∧ s.waterReply.debt = s.sa.debt)

/-- The queries by number (GET_BAY, GET_READING, SNAP_LANE) answer with the record named, or RANGE for a number outside
the row's, and change nothing (GET_BAY reads one free value, the exit button's level, log 8). -/
def Obligations.BayReadingLaneAnswered : Prop :=
  ∀ (tag : Byte) (n : Nat) (s : State), LinkReady s →
    (∀ b, Bay.ofNat? n = some b →
      exec (.getBay tag (.fields n)) s = .next ({ s with freshCounter := s.freshCounter + 1 }.answer
        ⟨0xA3, tag, .ok, .bay (s.bayReply b)⟩) ∧
      (s.bayReply b).state = (s.bc.get b).state ∧ (s.bayReply b).held = (s.bc.get b).held ∧
      (s.bayReply b).lastFault = (s.bc.get b).lastFault ∧ (s.bayReply b).stray = (s.pr.get b).stray) ∧
    (n = 0 ∨ 6 < n → exec (.getBay tag (.fields n)) s = .next (s.answer ⟨0xA3, tag, .range, .none⟩)) ∧
    (∀ ch, Channel.ofNat? n = some ch →
      exec (.getReading tag (.fields n)) s = .next (s.answer ⟨0xA6, tag, .ok, .reading (s.readingReply ch)⟩) ∧
      (s.readingReply ch).value = (s.qs.readings.getCh ch).value ∧
      (s.readingReply ch).valid = (s.qs.readings.getCh ch).valid) ∧
    (7 < n → exec (.getReading tag (.fields n)) s = .next (s.answer ⟨0xA6, tag, .range, .none⟩)) ∧
    (∀ l, Lane.ofNat? n = some l →
      exec (.snapLane tag (.fields n)) s = .next (s.answer ⟨0xA7, tag, .ok, .lane (s.laneReply l)⟩) ∧
      (s.laneReply l).state = (s.gu.get l).state ∧ (s.laneReply l).count = (s.gu.get l).count ∧
      (s.laneReply l).tags = (s.gu.get l).tags) ∧
    (n = 0 ∨ 2 < n → exec (.snapLane tag (.fields n)) s = .next (s.answer ⟨0xA7, tag, .range, .none⟩))

/-- GET_ACCOUNT answers with the account's entry, whether it is at limit and the number of visits that hold it; account
number 0 gives RANGE, an absent account NOT_FOUND; it changes nothing. -/
def Clause.AccountAnswered : Prop :=
  ∀ (tag : Byte) (n : Nat) (s : State), LinkReady s → n ≤ 65535 →
    (n = 0 → exec (.getAccount tag (.fields n)) s = .next (s.answer ⟨0xA5, tag, .range, .none⟩)) ∧
    (1 ≤ n → Table.look s.dt.accounts n = none →
      exec (.getAccount tag (.fields n)) s = .next (s.answer ⟨0xA5, tag, .notFound, .none⟩)) ∧
    (∀ a, 1 ≤ n → Table.look s.dt.accounts n = some a →
      exec (.getAccount tag (.fields n)) s = .next (s.answer ⟨0xA5, tag, .ok, .account
        ⟨n, a, decide (0 < a.credit) && decide (a.credit ≤ a.balance),
          (s.vq.visits.filter fun v => decide (v.2.account = some n)).length⟩⟩))

/-- GET_VISIT answers with the visit's record, the number of results it holds and its results from the first phase on, as
many as a body of 240 bytes holds whole: one more would not fit. A visit number 0 or a first phase outside 1..8 gives
RANGE, an absent visit NOT_FOUND. It changes nothing. -/
def Clause.VisitAnswered : Prop :=
  ∀ (tag : Byte) (f : GetVisit) (s : State), LinkReady s →
    (f.visit = 0 ∨ f.firstPhase = 0 ∨ 8 < f.firstPhase →
      exec (.getVisit tag (.fields f)) s = .next (s.answer ⟨0xA1, tag, .range, .none⟩)) ∧
    (1 ≤ f.visit → 1 ≤ f.firstPhase → f.firstPhase ≤ 8 → Table.look s.vq.visits f.visit = none →
      exec (.getVisit tag (.fields f)) s = .next (s.answer ⟨0xA1, tag, .notFound, .none⟩)) ∧
    (∀ v, 1 ≤ f.visit → 1 ≤ f.firstPhase → f.firstPhase ≤ 8 → Table.look s.vq.visits f.visit = some v →
      ∃ (sent left : List PhaseResult) (reply : List PhaseResult → VisitReply),
        (∀ l, reply l = ⟨f.visit, v, v.results.length, l, s.place f.visit v⟩) ∧
        sent ++ left = v.results.drop (f.firstPhase - 1) ∧
        exec (.getVisit tag (.fields f)) s = .next (s.answer ⟨0xA1, tag, .ok, .visit (reply sent)⟩) ∧
        (v.tags.length ≤ 4 → 1 + (visitBytes (reply sent)).length ≤ 240) ∧
        (∀ p more, left = p :: more → 240 < 1 + (visitBytes (reply (sent ++ [p]))).length))

/-- GET_ACCOUNT and GET_VISIT. -/
def Obligations.AccountAndVisitAnswered : Prop := Clause.AccountAnswered ∧ Clause.VisitAnswered

/-! ## Operating requests -/

/-- SET_MODE CLOSED from another mode, with the lanes IDLE, nothing called and no bay EMPTY or CALLED: the mode is CLOSED,
a pending drain is dropped, the purge timer and reclaim stop, notice MODE goes out with cause HOST before the reply (log
6). A mode that is none of the five gives RANGE, and REFILL with an invalid CH5 reading, or one below the hold threshold,
gives STATE. -/
def Clause.ModeClosed : Prop :=
  ∀ (tag : Byte) (force : Bool) (s : State), LinkReady s →
    (s.lm.mode ≠ .closed → (∀ l : Lane, (s.gu.get l).state = .idle) → s.vq.called = [] →
      (∀ b : Bay, (s.bc.get b).state ≠ .empty ∧ (s.bc.get b).state ≠ .called) →
      ∃ (t : State) (nt : ModeNotice), exec (.setMode tag (.fields ⟨some .closed, force⟩)) s = .next t ∧
        nt.entered = .closed ∧ nt.left = s.lm.mode ∧ nt.cause = .host ∧
        t.lp = ((s.notify (.mode nt)).answer ⟨0x90, tag, .ok, .mode .closed false⟩).lp ∧
        t.lm = { s.lm with mode := .closed, holdOrigin := none, drainPending := none, deferral := none, reclaim := false } ∧
        t.sa = { s.sa with purgeTimer := none } ∧ t.gu = s.gu ∧ t.vq = s.vq ∧ t.dt = s.dt ∧ t.pr = s.pr ∧
        t.cu = s.cu ∧ t.bu = s.bu ∧ t.qs = s.qs ∧ t.clock = s.clock ∧
        ∀ b : Bay, (t.bc.get b).state = (s.bc.get b).state ∧ (t.bc.get b).held = (s.bc.get b).held ∧
          (t.bc.get b).lineFilled = (s.bc.get b).lineFilled) ∧
    exec (.setMode tag (.fields ⟨none, force⟩)) s = .next (s.answer ⟨0x90, tag, .range, .none⟩) ∧
    ((s.qs.readings.getCh .ch5).valid = false ∨
        (s.qs.readings.getCh .ch5).value < s.dt.settings.holdThreshold →
      exec (.setMode tag (.fields ⟨some .refill, force⟩)) s = .next (s.answer ⟨0x90, tag, .state, .none⟩))

/-- SET_MODE OPEN or HOLD, with the lanes IDLE, nothing queued or called and no request or purge due. From another mode,
with the bays as the new mode leaves them: the mode is the one wanted, HOLD with hold origin HOST, a pending drain is
dropped, and MODE goes out with cause HOST before the reply (log 6). With one bay CLOSED in service, its lines filled and
its sensors inactive, that bay comes to EMPTY and tells so. HOLD wanted in HOLD sets the origin alone. -/
def Clause.ModeOpenHold : Prop :=
  ∀ (tag : Byte) (force : Bool) (new : DepotMode) (origin : Option HoldOrigin) (s : State), LinkReady s →
    (new = .opened ∧ origin = none) ∨ (new = .hold ∧ origin = some .host) → LanesIdle s → NoCall s → SupplyCalm s →
    (s.lm.mode ≠ new → BaysSteady s →
      ∃ (t : State) (nt : ModeNotice), exec (.setMode tag (.fields ⟨some new, force⟩)) s = .next t ∧
        t = { s with lp := ((s.notify (.mode nt)).answer ⟨0x90, tag, .ok, .mode new false⟩).lp,
                     sa := { s.sa with purgeTimer := t.sa.purgeTimer },
                     lm := { s.lm with mode := new, holdOrigin := origin, drainPending := none, deferral := none,
                                       reclaim := t.lm.reclaim } } ∧
        nt.entered = new ∧ nt.left = s.lm.mode ∧ nt.cause = .host ∧ nt.holdOrigin = origin ∧ nt.drainPending = false ∧
        t.sa.purgeTimer = some (s.sa.purgeTimer.getD (s.now + 1000 * s.dt.settings.spacing))) ∧
    (∀ b : Bay, s.lm.mode ≠ new → (s.bc.get b).state = .closed → (s.bc.get b).service = .inService →
      (s.bc.get b).lineFilled = true → (s.bc.get b).wheelStop = false → (s.bc.get b).rearBeam = false →
      (∀ c, c ≠ b → (s.bc.get c).state = .closed ∧ (s.bc.get c).service = .outOfService) →
      ∃ (t : State) (nt : ModeNotice) (nb : BayStateNotice), exec (.setMode tag (.fields ⟨some new, force⟩)) s = .next t ∧
        (t.bc.get b).state = .empty ∧ (t.bc.get b).lastFault = .none ∧ (∀ c, c ≠ b → t.bc.get c = s.bc.get c) ∧
        t.lp = (((s.notify (.bayState nb)).notify (.mode nt)).answer ⟨0x90, tag, .ok, .mode new false⟩).lp ∧
        nb.bay = b ∧ nb.entered = .empty ∧ nb.left = .closed ∧ nt.entered = new ∧ nt.left = s.lm.mode ∧
        t.lm.mode = new ∧ t.lm.holdOrigin = origin ∧ t.gu = s.gu ∧ t.vq = s.vq ∧ t.dt = s.dt ∧ t.pr = s.pr ∧ t.cu = s.cu) ∧
    (s.lm.mode = new → (new = .opened → s.lm.holdOrigin = none) →
      exec (.setMode tag (.fields ⟨some new, force⟩)) s = .next ({ s with lm := { s.lm with
        holdOrigin := origin, drainPending := none, deferral := none } }.answer ⟨0x90, tag, .ok, .mode new false⟩))

/-- SET_MODE REFILL with the air warm enough, the lanes IDLE, nothing called and every bay CLOSED, none OUT_PENDING: MODE
goes out, and the lowest-numbered bay in service with empty lines and no refill in flight is REFILLING, from the tank where
V_rec less the floor is at least its line volume and else from the well, for one second for every started 2 L. -/
def Clause.ModeRefill : Prop :=
  ∀ (tag : Byte) (force : Bool) (b : Bay) (before after : List Bay) (s : State), LinkReady s → s.lm.mode ≠ .refill →
    (s.qs.readings.getCh .ch5).valid = true → s.dt.settings.holdThreshold ≤ (s.qs.readings.getCh .ch5).value →
    LanesIdle s → s.vq.called = [] →
    (∀ c, (s.bc.get c).state = .closed ∧ (s.bc.get c).service ≠ .outPending) →
    (let open_ := fun c =>
       (s.bc.get c).service = .inService ∧ (s.bc.get c).lineFilled = false ∧ s.lm.refills.get c = none
     Bay.all = before ++ b :: after ∧ open_ b ∧ ∀ c ∈ before, ¬ open_ c) →
    ∃ (t : State) (nt : ModeNotice) (nb : BayStateNotice) (r : Refill),
      exec (.setMode tag (.fields ⟨some .refill, force⟩)) s = .next t ∧
      t.lp = (((s.notify (.mode nt)).notify (.bayState nb)).answer ⟨0x90, tag, .ok, .mode .refill false⟩).lp ∧
      nt.entered = .refill ∧ nt.left = s.lm.mode ∧ nt.cause = .host ∧ nb.bay = b ∧ nb.entered = .refilling ∧
      t.lm.mode = .refill ∧ t.lm.holdOrigin = none ∧ t.lm.drainPending = none ∧
      t.lm.refills = s.lm.refills.set b (some r) ∧ r.volume = s.dt.settings.lineVolume.get b ∧
      r.until_ = s.now + 1000 * ((r.volume + 1) / 2) ∧
      (r.source = .recycled ↔ (r.volume : Int) ≤ s.lm.vRec - s.dt.settings.reserveFloor) ∧
      t.lm.drainValve = s.lm.drainValve.set b false ∧ t.lm.vSet = s.lm.vSet ∧ t.lm.vRec = s.lm.vRec ∧
      t.lm.freshIn = s.lm.freshIn ∧ (t.bc.get b).state = .refilling ∧ (t.bc.get b).lineFilled = false ∧
      (∀ c, c ≠ b → t.bc.get c = s.bc.get c) ∧ t.gu = s.gu ∧ t.vq = s.vq ∧ t.dt = s.dt ∧ t.pr = s.pr ∧ t.cu = s.cu

/-- SET_MODE DRAIN. With no phase, no visit queued or called, the lanes IDLE and every bay CLOSED, DRAIN is entered at once,
with force or without: the filled lines are drained to L and MODE gives the litres. With a bay WASHING in HOLD and no drain
pending, it is pending with cause HOST, the deferral timer runs, and MODE names HOLD as entered and left (the model's
choice, log 39). With a drain pending and no force, and in DRAIN, nothing changes. -/
def Clause.ModeDrain : Prop :=
  ∀ (tag : Byte) (force : Bool) (s : State), LinkReady s →
    (s.lm.mode = .drain →
      exec (.setMode tag (.fields ⟨some .drain, force⟩)) s =
        .next (s.answer ⟨0x90, tag, .ok, .mode .drain s.lm.drainPending.isSome⟩)) ∧
    (s.lm.mode ≠ .drain → s.lm.drainPending ≠ none →
      exec (.setMode tag (.fields ⟨some .drain, false⟩)) s = .next (s.answer ⟨0x90, tag, .ok, .mode s.lm.mode true⟩)) ∧
    (s.lm.mode = .hold → s.lm.drainPending = none → s.anyWashing = true →
      ∃ nt : ModeNotice, nt.entered = .hold ∧ nt.left = .hold ∧ nt.cause = .host ∧ nt.drainPending = true ∧
        exec (.setMode tag (.fields ⟨some .drain, false⟩)) s = .next (({ s with lm := { s.lm with
          drainPending := some .host, deferral := some (s.now + 1000 * s.dt.settings.deferralMax) } }.notify
            (.mode nt)).answer ⟨0x90, tag, .ok, .mode .hold true⟩)) ∧
    (s.lm.mode ≠ .drain → force = true ∨ s.lm.drainPending = none → NoPhase s → NoCall s → LanesIdle s →
      (∀ b : Bay, (s.bc.get b).state = .closed) → LinesTold s →
      ∃ (t : State) (nt : ModeNotice), exec (.setMode tag (.fields ⟨some .drain, force⟩)) s = .next t ∧
        t.lm.mode = .drain ∧ t.lm.holdOrigin = none ∧ t.lm.drainPending = none ∧ t.lm.deferral = none ∧
        t.lm.persist = none ∧ t.lm.heldLine = Six.all 0 ∧ t.lm.drained = s.lm.drained + s.vLines ∧
        (∀ b : Bay, (t.bc.get b).lineFilled = false ∧ (t.bc.get b).state = .closed) ∧ t.lm.vSet = s.lm.vSet ∧
        t.lm.vRec = s.lm.vRec ∧ t.sa.purgeTimer = none ∧ nt.entered = .drain ∧ nt.left = s.lm.mode ∧ nt.cause = .host ∧
        nt.litresDrained = some s.vLines ∧ nt.phasesCut = some 0 ∧
        t.lp = ((s.notify (.mode nt)).answer ⟨0x90, tag, .ok, .mode .drain false⟩).lp ∧ t.dt = s.dt ∧ t.vq = s.vq ∧
        t.pr = s.pr ∧ t.cu = s.cu ∧ t.gu = s.gu)

/-- SET_MODE to each of the five modes, and its refusals. -/
def Obligations.ModeSet : Prop := Clause.ModeClosed ∧ Clause.ModeOpenHold ∧ Clause.ModeRefill ∧ Clause.ModeDrain

/-- SET_ALLOWANCE: a figure above 1,000,000 gives RANGE; another is written at once, with used today and the reservations
as they stand, and the reply gives the remaining allowance under it. -/
def Obligations.AllowanceSet : Prop :=
  ∀ (tag : Byte) (n : Nat) (s : State), LinkReady s →
    (1000000 < n → exec (.setAllowance tag (.fields n)) s = .next (s.answer ⟨0x92, tag, .range, .none⟩)) ∧
    (n ≤ 1000000 →
      exec (.setAllowance tag (.fields n)) s =
        .next ({ s with dt := { s.dt with settings := { s.dt.settings with dailyAllowance := n } } }.answer
          ⟨0x92, tag, .ok, .allowance ⟨n, s.bu.usedToday, s.outstanding,
            (s.bu.reservations.toList.filterMap id).length, n - (s.bu.usedToday + s.outstanding)⟩⟩))

/-- BAY_SERVICE outside REFILL: OUT sets a CLOSED bay OUT_OF_SERVICE and a bay that is neither EMPTY, CLOSED nor CALLED
OUT_PENDING; IN clears OUT_PENDING; a bay outside 1..6 gives RANGE. -/
def Clause.BayServiceSet : Prop :=
  ∀ (tag : Byte) (n : Nat) (s : State), LinkReady s → s.lm.mode ≠ .refill →
    (∀ b : Bay, Bay.ofNat? n = some b →
      ((s.bc.get b).state = .closed → (s.bc.get b).service = .inService →
        exec (.bayService tag (.fields ⟨n, some .outOfService⟩)) s =
          .next ({ s with bc := s.bc.set b { s.bc.get b with service := .outOfService } }.answer
            ⟨0x93, tag, .ok, .service .outOfService⟩)) ∧
      ((s.bc.get b).state ≠ .closed → (s.bc.get b).state ≠ .empty → (s.bc.get b).state ≠ .called →
        (s.bc.get b).service = .inService →
        exec (.bayService tag (.fields ⟨n, some .outOfService⟩)) s =
          .next ({ s with bc := s.bc.set b { s.bc.get b with service := .outPending } }.answer
            ⟨0x93, tag, .ok, .service .outPending⟩)) ∧
      ((s.bc.get b).service = .outPending →
        exec (.bayService tag (.fields ⟨n, some .inService⟩)) s =
          .next ({ s with bc := s.bc.set b { s.bc.get b with service := .inService } }.answer
            ⟨0x93, tag, .ok, .service .inService⟩))) ∧
    (n = 0 ∨ 6 < n →
      exec (.bayService tag (.fields ⟨n, some .inService⟩)) s = .next (s.answer ⟨0x93, tag, .range, .none⟩))

/-- RELEASE_BAY: a bay in FINISHING with its release hold set, and a bay in STRAY, enter RELEASING with the exit barrier
open for 10 s and the exit stall timer of 120 s; BAY_STATE names the visit still held (log 33) and goes out before the
reply (log 6); another bay gives STATE. -/
def Clause.BayReleased : Prop :=
  ∀ (tag : Byte) (n : Nat) (b : Bay) (s : State), LinkReady s → Bay.ofNat? n = some b →
    ((s.bc.get b).state = .stray ∨ ((s.bc.get b).state = .finishing ∧ (s.bc.get b).releaseHold = true) →
      ∃ nt : BayStateNotice, nt.bay = b ∧ nt.entered = .releasing ∧ nt.left = (s.bc.get b).state ∧
        nt.held = (s.bc.get b).held ∧
        exec (.releaseBay tag (.fields n)) s =
          .next (({ s with bc := s.bc.set b { s.bc.get b with
            state := .releasing, releaseHold := false, exitPulse := some (s.now + 10000),
            exitStall := some (s.now + 120000) } }.notify (.bayState nt)).answer ⟨0x94, tag, .ok, .none⟩)) ∧
    ((s.bc.get b).state ≠ .stray → (s.bc.get b).state ≠ .finishing ∨ (s.bc.get b).releaseHold = false →
      exec (.releaseBay tag (.fields n)) s = .next (s.answer ⟨0x94, tag, .state, .none⟩))

/-- BAY_SERVICE and RELEASE_BAY. -/
def Obligations.BayServedAndReleased : Prop := Clause.BayServiceSet ∧ Clause.BayReleased

/-- ASSIGN_BAY of a STRAY bay whose programme begins with a DRY phase, in OPEN or HOLD with the bay's lines filled: the
visit is created in IN_BAY under the next free number, holds no queue place, takes a reservation, and the bay is WASHING
with the phase RUNNING (R89); BAY_STATE goes out before the reply (log 6). A bay that is not STRAY gives STATE, a tag that
a visit holds DUPLICATE. -/
def Obligations.BayAssigned : Prop :=
  ∀ (tag : Byte) (f : AssignBay) (b : Bay) (c : Cls) (p : Prog) (pr : Programme) (r : PhaseRecord)
    (rest : List PhaseRecord) (s : State), LinkReady s →
    Bay.ofNat? f.bay = some b → Cls.ofNat? f.cls = some c → Prog.ofNat? f.programme = some p →
    f.tags.length ≤ 4 → f.tags.Nodup → 0 ∉ f.tags → (f.account = 0 ∨ Table.has s.dt.accounts f.account = true) →
    s.dt.programmes.get p = some pr → pr.phases = r :: rest →
    ((s.bc.get b).state ≠ .stray →
      exec (.assignBay tag (.fields f)) s = .next (s.answer ⟨0x95, tag, .state, .none⟩)) ∧
    ((s.bc.get b).state = .stray → (∃ g ∈ f.tags, s.tagHeld g = true) →
      exec (.assignBay tag (.fields f)) s = .next (s.answer ⟨0x95, tag, .duplicate, .none⟩)) ∧
    ((s.bc.get b).state = .stray → (∀ g ∈ f.tags, s.tagHeld g = false) → s.vq.visits.length < 32 → s.places ≤ 61 →
      r.kind = .dry → washes s.lm.mode = true → (s.bc.get b).lineFilled = true → s.plan? b = none →
      ∃ (t : State) (v : Visit) (run : PhaseRun) (nt : BayStateNotice),
        exec (.assignBay tag (.fields f)) s = .next t ∧
        t.vq = { s.vq with visits := Table.put s.vq.visits s.newNumber v, lastNumber := s.newNumber } ∧
        v.state = .inBay ∧ v.bay = some b ∧ v.lane = .host ∧ v.tags = f.tags ∧ v.cls = c ∧ v.programme = p ∧
        v.axles = none ∧ v.noShow = 0 ∧ v.posted = none ∧ (f.account = 0 → v.account = none ∧ v.permit = true) ∧
        (f.account ≠ 0 → v.account = some f.account) ∧ v.day = s.clock.day ∧ v.time = s.clock.time ∧
        t.cu = { s.cu with reservations := s.cu.reservations + 1 } ∧
        (t.bc.get b).state = .washing ∧ (t.bc.get b).held = some s.newNumber ∧
        t.plan? b = some run ∧ run.visit = s.newNumber ∧ run.number = 1 ∧ run.record = r ∧ run.stage = .running ∧
        run.freshOpen = false ∧ run.recycledOpen = false ∧
        t.lp = ((s.notify (.bayState nt)).answer ⟨0x95, tag, .ok, .assigned s.newNumber⟩).lp ∧
        nt.entered = .washing ∧ nt.left = .stray ∧ t.dt = s.dt ∧ t.gu = s.gu ∧ t.lm = s.lm ∧ t.sa = s.sa ∧
        t.bu = s.bu ∧ t.qs = s.qs ∧
        ∀ b' : Bay, b' ≠ b → t.bc.get b' = s.bc.get b' ∧ t.pr.get b' = s.pr.get b')

/-- CANCEL_VISIT of a QUEUED visit, with no lane WAITING and no pending summary: it leaves the table and the queue, its
reservation is given back, and CANCELLED goes out with cause HOST before the reply (log 6). A visit that is IN_BAY, INTERRUPTED or
FINISHED gives STATE, number 0 RANGE, an absent visit NOT_FOUND. -/
def Obligations.VisitCancelled : Prop :=
  ∀ (tag : Byte) (n : Nat) (s : State), LinkReady s →
    (n = 0 → exec (.cancelVisit tag (.fields n)) s = .next (s.answer ⟨0x96, tag, .range, .none⟩)) ∧
    (n ≠ 0 → Table.look s.vq.visits n = none →
      exec (.cancelVisit tag (.fields n)) s = .next (s.answer ⟨0x96, tag, .notFound, .none⟩)) ∧
    (∀ v, n ≠ 0 → Table.look s.vq.visits n = some v →
      (v.state = .inBay ∨ v.state = .interrupted ∨ v.state = .finished →
        exec (.cancelVisit tag (.fields n)) s = .next (s.answer ⟨0x96, tag, .state, .none⟩)) ∧
      (v.state = .queued → NoWaitingLane s → s.cu.pendingSummary = none →
        ∃ t, exec (.cancelVisit tag (.fields n)) s = .next t ∧
          t.vq = { s.vq with visits := Table.del s.vq.visits n, queue := s.vq.queue.filter fun m => decide (m ≠ n) } ∧
          t.cu = { s.cu with reservations := s.cu.reservations - 1 } ∧
          t.lp = ((s.notify (.cancelled ⟨n, v.lane, v.account, .queued, none, .host⟩)).answer
            ⟨0x96, tag, .ok, .none⟩).lp ∧
          (∀ l : Lane, (∃ c, (s.gu.get l).state = .admitted n c) → (t.gu.get l).state = .idle) ∧
          t.dt = s.dt ∧ t.bc = s.bc ∧ t.pr = s.pr ∧ t.qs = s.qs ∧ t.bu = s.bu ∧ t.sa = s.sa ∧ t.lm = s.lm))

/-- ADMIT_OVERRIDE of a REFUSED lane: in OPEN, with a bay that takes the class, with capacity and no bay EMPTY, the
vehicle is admitted whatever its tags, account or casual admission say, without the tags that open visits hold; outside
OPEN the decision is REFUSED with CLOSED; the notice goes out before the reply (log 6); a lane that is not REFUSED gives
STATE. -/
def Obligations.OverrideDecided : Prop :=
  ∀ (tag : Byte) (n : Nat) (l : Lane) (s : State), LinkReady s → Lane.ofNat? n = some l →
    ((∀ x, (s.gu.get l).state ≠ .refused x) →
      exec (.admitOverride tag (.fields n)) s = .next (s.answer ⟨0x97, tag, .state, .none⟩)) ∧
    (∀ x, (s.gu.get l).state = .refused x →
      (s.lm.mode ≠ .opened →
        ∃ (t : State) (nt : RefusedNotice), exec (.admitOverride tag (.fields n)) s = .next t ∧
          (t.gu.get l).state = .refused .closed ∧
          t.lp = ((s.notify (.refused nt)).answer ⟨0x97, tag, .ok, .decision (.refused .closed)⟩).lp ∧
          nt.lane = l ∧ nt.reason = .closed ∧ nt.override = true ∧
          t.vq = s.vq ∧ t.cu = s.cu ∧ t.bc = s.bc ∧ t.dt = s.dt ∧ t.lm = s.lm) ∧
      (s.lm.mode = .opened → s.bayTakes (s.identity (s.gu.get l).tags).cls = true → s.short = false → NoEmptyBay s →
        ∃ (t : State) (v : Visit) (nt : AdmittedNotice), exec (.admitOverride tag (.fields n)) s = .next t ∧
          (t.gu.get l).state = .admitted s.newNumber false ∧ (t.gu.get l).barrierPulse = some (s.now + 1000) ∧
          t.vq = { visits := Table.put s.vq.visits s.newNumber v, queue := s.vq.queue ++ [s.newNumber],
                   called := s.vq.called, lastNumber := s.newNumber } ∧
          v.state = .queued ∧ v.lane = .lane l ∧ v.axles = none ∧
          v.tags = (s.gu.get l).tags.filter (fun g => !s.tagHeld g) ∧
          v.account = (s.identity (s.gu.get l).tags).account ∧ v.cls = (s.identity (s.gu.get l).tags).cls ∧
          t.cu = { s.cu with reservations := s.cu.reservations + 1 } ∧
          t.lp = ((s.notify (.admitted nt)).answer ⟨0x97, tag, .ok, .decision (.admitted s.newNumber)⟩).lp ∧
          nt.override = true ∧ nt.visit = s.newNumber ∧ t.bc = s.bc ∧ t.dt = s.dt ∧ t.lm = s.lm ∧ t.pr = s.pr))

/-- SETTLE_ACCOUNT lowers the open balance by the amount, stopping at 0, and clears BAL_SAT; CLOSE_PERIOD sets every
account's period visits to 0. -/
def Obligations.AccountsSettledAndClosed : Prop :=
  ∀ (tag : Byte) (s : State), LinkReady s →
    (∀ (f : SettleAccount) (a : Account), 1 ≤ f.account → f.account ≤ 65535 → 1 ≤ f.amount → f.amount ≤ 4294967295 →
      Table.look s.dt.accounts f.account = some a →
      ∃ t, exec (.settleAccount tag (.fields f)) s = .next t ∧
        t = { s with dt := { s.dt with accounts := t.dt.accounts }, lp := t.lp } ∧
        Table.look t.dt.accounts f.account = some { a with balance := a.balance - f.amount, balSat := false } ∧
        (∀ m, m ≠ f.account → Table.look t.dt.accounts m = Table.look s.dt.accounts m) ∧
        t.lp = (s.answer ⟨0x98, tag, .ok, .settled (min f.amount a.balance) (a.balance - f.amount)
          (decide (0 < a.credit) && decide (a.credit ≤ a.balance - f.amount))⟩).lp) ∧
    (∃ (t : State) (k : Nat), exec (.closePeriod tag (.fields ())) s = .next t ∧
      t = { s with dt := { s.dt with accounts := t.dt.accounts }, lp := t.lp } ∧
      t.dt.accounts = s.dt.accounts.map (fun e => (e.1, { e.2 with periodVisits := 0 })) ∧
      t.lp = (s.answer ⟨0x99, tag, .ok, .periodClosed k⟩).lp)

/-- TRIM_LOOP with no phase, purge, refill or discharge in flight and valid CH6 and CH7 readings (and, so that nothing
starts at once, no purge due and no request for a draw): the book takes the readings, V0 is the loop's total, the counters
are 0, and the two sides agree. A discharge in flight, as one of the conditions, gives STATE. -/
def Clause.LoopTrimmed : Prop :=
  ∀ (tag : Byte) (s : State), LinkReady s →
    (s.lm.discharge ≠ none → exec (.trimLoop tag (.fields ())) s = .next (s.answer ⟨0x9A, tag, .state, .none⟩)) ∧
    (NoPhase s → s.sa.purge = none → s.lm.refills = Six.all none → s.lm.discharge = none →
      (s.qs.readings.getCh .ch6).valid = true → (s.qs.readings.getCh .ch7).valid = true →
      s.sa.debt = 0 → s.sa.requests = Six.all false →
      ∃ (t : State) (r : TrimReply), exec (.trimLoop tag (.fields ())) s = .next t ∧
        t.lm.vSet = max 0 (s.qs.readings.getCh .ch6).value ∧ t.lm.vRec = max 0 (s.qs.readings.getCh .ch7).value ∧
        t.lm.heldLine = s.lm.heldLine ∧ t.lm.v0 = t.lm.vSet + t.lm.vRec + s.vLines ∧ t.lm.freshIn = 0 ∧
        t.lm.discharged = 0 ∧ t.lm.carried = 0 ∧ t.lm.drained = 0 ∧ t.leftSide = t.lm.rightSide ∧
        t.lm.mode = s.lm.mode ∧ t.lp = (s.answer ⟨0x9A, tag, .ok, .trimmed r⟩).lp ∧ r.oldSet = s.lm.vSet ∧
        r.oldRec = s.lm.vRec ∧ r.newSet = t.lm.vSet ∧ r.newRec = t.lm.vRec ∧
        t.dt = s.dt ∧ t.bc = s.bc ∧ t.vq = s.vq ∧ t.cu = s.cu ∧ t.sa = s.sa ∧ t.bu = s.bu)

/-- DISCHARGE moves the figure or V_set, whichever is less, out of the pit, and opens the discharge valve for one second
for every started 5 L more; a figure outside 1..60,000 gives RANGE. -/
def Clause.PitDischarged : Prop :=
  ∀ (tag : Byte) (n : Nat) (s : State), LinkReady s →
    (n = 0 ∨ 60000 < n → exec (.discharge tag (.fields n)) s = .next (s.answer ⟨0x9B, tag, .range, .none⟩)) ∧
    (1 ≤ n → n ≤ 60000 → 0 < s.lm.vSet →
      ∃ t, exec (.discharge tag (.fields n)) s = .next t ∧
        t.lm.vSet = s.lm.vSet - min (n : Int) s.lm.vSet ∧
        (t.lm.discharged : Int) = s.lm.discharged + min (n : Int) s.lm.vSet ∧ t.lm.vRec = s.lm.vRec ∧
        t.lm.discharge =
          some (s.lm.discharge.getD s.now + 1000 * ((min n s.lm.vSet.toNat + 4) / 5)) ∧
        t.lp = (s.answer ⟨0x9B, tag, .ok, .discharged (min n s.lm.vSet.toNat) t.lm.vSet⟩).lp ∧
        t.dt = s.dt ∧ t.bc = s.bc ∧ t.vq = s.vq ∧ t.pr = s.pr ∧ t.sa = s.sa ∧ t.cu.ring = s.cu.ring)

/-- TRIM_LOOP and DISCHARGE. -/
def Obligations.LoopTrimmedAndDischarged : Prop := Clause.LoopTrimmed ∧ Clause.PitDischarged

/-- TAKE_CHARGES hands out the undelivered entries in ring order, as many as asked for or as there are, but no more than
a body of 240 bytes holds whole; it removes none and moves the mark past the last one handed out. REWIND_CHARGES sets
the mark back to the head sequence. -/
def Clause.ChargesTakenAndRewound : Prop :=
  ∀ (tag : Byte) (n : Nat) (s : State), LinkReady s →
    (n = 0 ∨ 4 < n → exec (.takeCharges tag (.fields n)) s = .next (s.answer ⟨0xB0, tag, .range, .none⟩)) ∧
    (1 ≤ n → n ≤ 4 →
      ∃ (es left : List Entry) (reply : List Entry → ChargesReply),
        (∀ l, reply l = ⟨l.map entryCopy, s.places, s.cu.ring.entries.length, s.agedCount,
          s.cu.pendingSummary.isSome,
          s.cu.ring.entries.length - ((s.lp.mark - s.headSeq).toNat + l.length)⟩) ∧
        es ++ left = (s.cu.ring.entries.drop (s.lp.mark - s.headSeq).toNat).take n ∧
        exec (.takeCharges tag (.fields n)) s =
          .next ({ s with lp := { s.lp with mark := s.lp.mark + BitVec.ofNat 32 es.length } }.answer
            ⟨0xB0, tag, .ok, .charges (reply es)⟩) ∧
        1 + (ReplyData.charges (reply es)).bytes.length ≤ 240 ∧
        (∀ e more, left = e :: more → 240 < 1 + (ReplyData.charges (reply (es ++ [e]))).bytes.length)) ∧
    exec (.rewindCharges tag (.fields ())) s =
      .next ({ s with lp := { s.lp with mark := s.headSeq } }.answer
        ⟨0xB2, tag, .ok, .rewound s.headSeq s.cu.ring.entries.length⟩)

/-- CONFIRM_CHARGES of a delivered entry, with no lane WAITING and no pending summary, removes every entry from the head
through it and leaves the mark; of an entry already removed it changes nothing; any other number gives RANGE. -/
def Clause.ChargesConfirmed : Prop :=
  ∀ (tag : Byte) (q : Seq) (s : State), LinkReady s →
    ((q - s.headSeq).toNat < (s.lp.mark - s.headSeq).toNat → NoWaitingLane s → s.cu.pendingSummary = none →
      ∃ (t : State) (h : Seq) (a : Nat), exec (.confirmCharges tag (.fields q)) s = .next t ∧
        t.cu = { s.cu with ring := ⟨(s.cu.ring.headSlot + ((q - s.headSeq).toNat + 1)) % 64,
          s.cu.ring.entries.drop ((q - s.headSeq).toNat + 1)⟩ } ∧
        t = { s with cu := t.cu, lp := t.lp } ∧ t.lp.mark = s.lp.mark ∧
        t.lp = (s.answer ⟨0xB1, tag, .ok, .confirmed ((q - s.headSeq).toNat + 1) h
          (s.cu.ring.entries.length - ((q - s.headSeq).toNat + 1)) a⟩).lp) ∧
    ((s.lp.mark - s.headSeq).toNat ≤ (q - s.headSeq).toNat → (q - s.headSeq).toNat < 2147483648 →
      exec (.confirmCharges tag (.fields q)) s = .next (s.answer ⟨0xB1, tag, .range, .none⟩)) ∧
    ((s.lp.mark - s.headSeq).toNat < 2147483648 → 2147483648 ≤ (q - s.headSeq).toNat →
      ∃ r, exec (.confirmCharges tag (.fields q)) s = .next (s.answer ⟨0xB1, tag, .ok, r⟩))

/-- TAKE_CHARGES, REWIND_CHARGES and CONFIRM_CHARGES. -/
def Obligations.ChargesCollected : Prop := Clause.ChargesTakenAndRewound ∧ Clause.ChargesConfirmed

/-! ## Lanes -/

/-- A treadle whose raw level comes to differ from its taken level starts its debounce window; one that returns to the
taken level drops it; a level that is the raw level already changes nothing. -/
def Clause.TreadleLevelTimed : Prop :=
  ∀ (l : Lane) (tr : Treadle) (on : Bool) (s : State),
    exec (.treadleLevelChange l tr on) s = .next { s with gu := s.gu.set l ((s.gu.get l).setTreadle tr
      (if on = ((s.gu.get l).treadle tr).raw then (s.gu.get l).treadle tr
       else if on = ((s.gu.get l).treadle tr).taken then ⟨on, ((s.gu.get l).treadle tr).taken, none⟩
       else ⟨on, ((s.gu.get l).treadle tr).taken, some (s.now + s.dt.settings.debounce)⟩)) }

/-- When the window runs out the change is taken: in OCCUPIED the stall timer starts again, in ADMITTED and WAITING the
change goes to the counter alone, and in IDLE with the stop beam inactive the lane becomes OCCUPIED. With no window
running the expiry has no effect (log 2). -/
def Clause.DebouncedChangeTaken : Prop :=
  ∀ (l : Lane) (tr : Treadle) (s : State),
    (((s.gu.get l).treadle tr).window = none → exec (.debounceExpiry l tr) s = .next s) ∧
    (∀ w, ((s.gu.get l).treadle tr).window = some w →
      ((∃ n c, (s.gu.get l).state = .admitted n c) ∨ (∃ a m, (s.gu.get l).state = .waiting a m) →
        exec (.debounceExpiry l tr) s = .next { s with
          now := max s.now w, gu := s.gu.set l ((s.gu.get l).take (s.dt.settings.axleMode.get l) tr) }) ∧
      ((s.gu.get l).state = .occupied ∨ ((s.gu.get l).state = .idle ∧ (s.gu.get l).stopBeam = false) →
        ∃ t, exec (.debounceExpiry l tr) s = .next t ∧ t = { s with now := max s.now w, gu := t.gu } ∧
          (t.gu.get l).state = .occupied ∧
          (t.gu.get l).stall = some (max s.now w + 1000 * s.dt.settings.laneStall) ∧
          (t.gu.get l).count = ((s.gu.get l).take (s.dt.settings.axleMode.get l) tr).count ∧
          (t.gu.get l).counter = ((s.gu.get l).take (s.dt.settings.axleMode.get l) tr).counter ∧
          ((t.gu.get l).treadle tr).taken = ((s.gu.get l).treadle tr).raw ∧
          ∀ l', l' ≠ l → t.gu.get l' = s.gu.get l'))

/-- TREADLE_LEVEL_CHANGE and DEBOUNCE_EXPIRY. -/
def Obligations.TreadleChangesTaken : Prop := Clause.TreadleLevelTimed ∧ Clause.DebouncedChangeTaken

/-- The axle counter's moves, row by row of the tables of OVERLAP mode (R23) and SPACED mode (R24). -/
def Obligations.AxleCounterMoves : Prop :=
  (∀ m : AxleMode, counterMove m .none .a true false = (.passage .onA .forward, .none) ∧
    counterMove m .none .b true false = (.passage .onB .reverse, .none) ∧
    counterMove m .none .a true true = (.none, .none) ∧ counterMove m .none .b true true = (.none, .none) ∧
    ∀ t o, counterMove m .none t false o = (.none, .none)) ∧
  (∀ o : Bool,
    counterMove .overlap (.passage .onA .forward) .b true o = (.passage .onAB .forward, .none) ∧
    counterMove .overlap (.passage .onA .forward) .a false o = (.none, .none) ∧
    counterMove .overlap (.passage .onAB .forward) .a false o = (.passage .onB .forward, .none) ∧
    counterMove .overlap (.passage .onAB .forward) .b false o = (.none, .none) ∧
    counterMove .overlap (.passage .onB .forward) .b false o = (.none, .forward) ∧
    counterMove .overlap (.passage .onB .forward) .a true o = (.none, .none) ∧
    counterMove .overlap (.passage .onB .reverse) .a true o = (.passage .onAB .reverse, .none) ∧
    counterMove .overlap (.passage .onB .reverse) .b false o = (.none, .none) ∧
    counterMove .overlap (.passage .onAB .reverse) .b false o = (.passage .onA .reverse, .none) ∧
    counterMove .overlap (.passage .onAB .reverse) .a false o = (.none, .none) ∧
    counterMove .overlap (.passage .onA .reverse) .a false o = (.none, .reverse) ∧
    counterMove .overlap (.passage .onA .reverse) .b true o = (.none, .none)) ∧
  (∀ o : Bool,
    counterMove .spaced (.passage .onA .forward) .a false o = (.passage .gap .forward, .none) ∧
    counterMove .spaced (.passage .onA .forward) .b true o = (.none, .none) ∧
    counterMove .spaced (.passage .gap .forward) .b true o = (.passage .onB .forward, .none) ∧
    counterMove .spaced (.passage .gap .forward) .a true o = (.none, .none) ∧
    counterMove .spaced (.passage .onB .forward) .b false o = (.none, .forward) ∧
    counterMove .spaced (.passage .onB .forward) .a true o = (.none, .none) ∧
    counterMove .spaced (.passage .onB .reverse) .b false o = (.passage .gap .reverse, .none) ∧
    counterMove .spaced (.passage .onB .reverse) .a true o = (.none, .none) ∧
    counterMove .spaced (.passage .gap .reverse) .a true o = (.passage .onA .reverse, .none) ∧
    counterMove .spaced (.passage .gap .reverse) .b true o = (.none, .none) ∧
    counterMove .spaced (.passage .onA .reverse) .a false o = (.none, .reverse) ∧
    counterMove .spaced (.passage .onA .reverse) .b true o = (.none, .none)) ∧
  (∀ r : LaneRecord,
    (r.count < 15 → r.countPassage .forward = { r with count := r.count + 1 }) ∧
    (15 ≤ r.count → r.countPassage .forward = { r with axleSat := true }) ∧
    r.countPassage .reverse = { r with count := r.count - 1, reverse := true } ∧ r.countPassage .none = r)

/-- The admission checks in their order: the first that fails gives the reason, an override passes over checks 3 to 5,
and none is given exactly when all of checks 1 and 3 to 6 pass. -/
def Obligations.AdmissionChecksInOrder : Prop :=
  ∀ (s : State) (tags : List TagNo) (i : Identity) (o : Bool),
    (s.lm.mode ≠ .opened → s.refusal tags i o = some .closed) ∧
    (s.lm.mode = .opened →
      (o = false → (∃ g ∈ tags, s.tagHeld g = true) → s.refusal tags i o = some .duplicate) ∧
      (o = false → (∀ g ∈ tags, s.tagHeld g = false) → s.accountBlocked i.account = true →
        s.refusal tags i o = some .blocked) ∧
      (o = false → (∀ g ∈ tags, s.tagHeld g = false) → i.account = none → s.casualRefused = true →
        s.refusal tags i o = some .unknown) ∧
      (o = false → (∀ g ∈ tags, s.tagHeld g = false) → s.accountBlocked i.account = false →
        (i.account ≠ none ∨ s.casualRefused = false) →
        s.refusal tags i o = if s.bayTakes i.cls then none else some .noBay) ∧
      (o = true → s.refusal tags i o = if s.bayTakes i.cls then none else some .noBay)) ∧
    (s.casualRefused = true ↔ s.dt.settings.casualAdmission = false ∨ 0 < s.agedCount) ∧
    (s.short = true ↔ 32 ≤ s.vq.visits.length ∨ 24 ≤ s.vq.queue.length ∨ 61 < s.places)

/-- The admission with a bay EMPTY, in service and large enough, no visit queued and no lane WAITING: the matching pass calls
the new visit at once to the smallest such bay, the lowest-numbered where two are equal (R51): the visit is CALLED, the last
of the Called List, the bay is CALLED with its lamp lit and the call timer running (R70), and CALLED goes out after
ADMITTED. -/
def Clause.AdmittedVisitCalled : Prop :=
  ∀ (l : Lane) (b : Bay) (before after : List Bay) (s : State),
    (s.gu.get l).stopBeam = false → (s.gu.get l).state = .occupied →
    s.refusal (s.gu.get l).tags (s.identity (s.gu.get l).tags) false = none → s.short = false →
    NoWaitingLane s → s.vq.queue = [] →
    (let len := (s.dt.classes.getCls (s.identity (s.gu.get l).tags).cls).length
     let size := s.dt.settings.maxSegments
     let takes := fun c => (s.bc.get c).state = .empty ∧ (s.bc.get c).service = .inService ∧ len ≤ size.get c
     Bay.all = before ++ b :: after ∧ takes b ∧ (∀ c ∈ before, takes c → size.get b < size.get c) ∧
       ∀ c ∈ after, takes c → size.get b ≤ size.get c) →
    ∃ (t : State) (v : Visit) (na : AdmittedNotice) (nc : CalledNotice), exec (.stopBeamChange l true) s = .next t ∧
      t = { s with gu := t.gu, vq := t.vq, bc := t.bc, lp := ((s.notify (.admitted na)).notify (.called nc)).lp,
                   cu := { s.cu with reservations := s.cu.reservations + 1 } } ∧
      t.gu = s.gu.set l { s.gu.get l with
        stopBeam := true, state := .admitted s.newNumber false, stall := none, wait := none, barrierPulse := some (s.now + 1000) } ∧
      t.vq = { visits := Table.put s.vq.visits s.newNumber v, queue := [], called := s.vq.called ++ [s.newNumber],
               lastNumber := s.newNumber } ∧
      v.state = .called ∧ v.bay = some b ∧ v.lane = .lane l ∧ v.tags = (s.gu.get l).tags ∧ v.noShow = 0 ∧
      v.cls = (s.identity (s.gu.get l).tags).cls ∧
      t.bc = s.bc.set b { s.bc.get b with
        state := .called, called := some s.newNumber, lamp := true,
        callTimer := some (s.now + 1000 * s.dt.settings.callTimeout), settleTimer := none, lossFilter := none,
        exitPulse := none, exitStall := none, sensorTimer := none } ∧
      nc.visit = s.newNumber ∧ nc.bay = b ∧ nc.noShow = 0 ∧ na.visit = s.newNumber ∧ na.lane = l

/-- The stop beam becoming active at an OCCUPIED lane brings the decision: REFUSED with its reason and the stall timer,
WAITING with the wait timer of 300 s where the depot is short of capacity, or ADMITTED with a visit at the queue's tail, a
reservation and the barrier open for 1 s (no bay EMPTY, so that no call follows). A level that is not new changes
nothing. -/
def Clause.StopBeamAtOccupied : Prop :=
  ∀ (l : Lane) (s : State),
    (∀ x, (s.gu.get l).stopBeam = x → exec (.stopBeamChange l x) s = .next s) ∧
    ((s.gu.get l).stopBeam = false → (s.gu.get l).state = .occupied →
      (∀ reason, s.refusal (s.gu.get l).tags (s.identity (s.gu.get l).tags) false = some reason →
        ∃ nt : RefusedNotice, nt.lane = l ∧ nt.reason = reason ∧ nt.override = false ∧
          exec (.stopBeamChange l true) s = .next ({ s with gu := s.gu.set l { s.gu.get l with
            stopBeam := true, state := .refused reason, wait := none,
            stall := some (s.now + 1000 * s.dt.settings.laneStall) } }.notify (.refused nt))) ∧
      (s.refusal (s.gu.get l).tags (s.identity (s.gu.get l).tags) false = none →
        (s.short = true →
          exec (.stopBeamChange l true) s = .next { s with gu := s.gu.set l { s.gu.get l with
            stopBeam := true, state := .waiting s.now false, stall := none, wait := some (s.now + 300000) } }) ∧
        (s.short = false → NoEmptyBay s →
          ∃ (t : State) (v : Visit) (nt : AdmittedNotice), exec (.stopBeamChange l true) s = .next t ∧
            t.gu = s.gu.set l { s.gu.get l with
              stopBeam := true, state := .admitted s.newNumber false, stall := none, wait := none, barrierPulse := some (s.now + 1000) } ∧
            t.vq = { visits := Table.put s.vq.visits s.newNumber v, queue := s.vq.queue ++ [s.newNumber],
                     called := s.vq.called, lastNumber := s.newNumber } ∧
            v.state = .queued ∧ v.lane = .lane l ∧ v.tags = (s.gu.get l).tags ∧ v.axles = none ∧ v.noShow = 0 ∧
            v.account = (s.identity (s.gu.get l).tags).account ∧ v.cls = (s.identity (s.gu.get l).tags).cls ∧
            v.day = s.clock.day ∧ v.time = s.clock.time ∧
            t = { s with gu := t.gu, vq := t.vq, lp := (s.notify (.admitted nt)).lp,
                         cu := { s.cu with reservations := s.cu.reservations + 1 } })))

/-- The stop beam at an OCCUPIED lane, and the call that follows an admission. -/
def Obligations.StopBeamDecides : Prop := Clause.StopBeamAtOccupied ∧ Clause.AdmittedVisitCalled

/-- The clear beam. At an ADMITTED lane its break sets clear seen; its clearing after that latches the axle count and the
flags into the visit, where it is neither posted nor priced, and clears the lane; where the visit is posted, priced or
gone, the count is discarded and the lane cleared. Its clearing with clear seen no, and every change of it in IDLE,
OCCUPIED, WAITING and REFUSED, changes its level alone; a level that is not new changes nothing. (A cleared lane has no
barrier pulse: the model's choice, log 22.) -/
def Obligations.ClearBeamLatches : Prop :=
  ∀ (l : Lane) (s : State),
    (∀ x, (s.gu.get l).clearBeam = x → exec (.clearBeamChange l x) s = .next s) ∧
    (∀ x, (s.gu.get l).clearBeam = !x → (∀ n c, (s.gu.get l).state ≠ .admitted n c) →
      exec (.clearBeamChange l x) s = .next { s with gu := s.gu.set l { s.gu.get l with clearBeam := x } }) ∧
    (∀ n c, (s.gu.get l).state = .admitted n c → (s.gu.get l).clearBeam = false →
      exec (.clearBeamChange l true) s = .next { s with gu := s.gu.set l { s.gu.get l with
        clearBeam := true, state := .admitted n true } }) ∧
    (∀ n, (s.gu.get l).state = .admitted n false → (s.gu.get l).clearBeam = true →
      exec (.clearBeamChange l false) s = .next { s with gu := s.gu.set l { s.gu.get l with clearBeam := false } }) ∧
    (∀ n, (s.gu.get l).state = .admitted n true → (s.gu.get l).clearBeam = true →
      ∀ cleared : LaneRecord, cleared = { s.gu.get l with
        clearBeam := false, state := .idle, count := 0, tags := [], key := none, axleSat := false, reverse := false,
        tagOver := false, stall := none, wait := none, barrierPulse := none } →
      (∀ v, Table.look s.vq.visits n = some v → v.posted = none → s.priced n = false →
        ∃ t, exec (.clearBeamChange l false) s = .next t ∧ t = { s with gu := s.gu.set l cleared, vq := t.vq } ∧
          Table.look t.vq.visits n = some { v with axles := some (s.gu.get l).count, other := { v.other with
            axleSat := v.other.axleSat || (s.gu.get l).axleSat, reverse := v.other.reverse || (s.gu.get l).reverse } } ∧
          (∀ m, m ≠ n → Table.look t.vq.visits m = Table.look s.vq.visits m) ∧
          t.vq = { s.vq with visits := t.vq.visits }) ∧
      ((Table.look s.vq.visits n = none ∨ ∃ v, Table.look s.vq.visits n = some v ∧ (v.posted ≠ none ∨ s.priced n = true)) →
        exec (.clearBeamChange l false) s = .next { s with gu := s.gu.set l cleared }))

/-- A key replaces the lane's key in OCCUPIED, WAITING and REFUSED (restarting the stall timer in OCCUPIED and REFUSED)
and is ignored in IDLE and ADMITTED. A tag joins a list of fewer than 4 at its end, sets TAG_OVER on a full one, and is
ignored when already listed, in IDLE, OCCUPIED, WAITING and REFUSED: in OCCUPIED and REFUSED it restarts the stall timer; in
IDLE it makes the lane OCCUPIED with the stall timer running, and with the stop beam active the decision is taken at once
on the list with it. Tag number 0, and a tag in ADMITTED, have no effect. -/
def Clause.KeysAndTagsTaken : Prop :=
  ∀ (l : Lane) (k : Prog) (g : TagNo) (s : State),
    ((s.gu.get l).state = .occupied ∨ (∃ x, (s.gu.get l).state = .refused x) →
      exec (.keypadPress l k) s = .next { s with gu := s.gu.set l { s.gu.get l with
        key := some k, stall := some (s.now + 1000 * s.dt.settings.laneStall) } }) ∧
    (∀ a m, (s.gu.get l).state = .waiting a m →
      exec (.keypadPress l k) s = .next { s with gu := s.gu.set l { s.gu.get l with key := some k } }) ∧
    ((s.gu.get l).state = .idle ∨ (∃ n c, (s.gu.get l).state = .admitted n c) →
      exec (.keypadPress l k) s = .next s) ∧
    exec (.tagRead l 0) s = .next s ∧
    ((∃ n c, (s.gu.get l).state = .admitted n c) → exec (.tagRead l g) s = .next s) ∧
    (∀ (list : List TagNo) (tagOver : Bool), g ≠ 0 →
      (g ∈ (s.gu.get l).tags ∧ list = (s.gu.get l).tags ∧ tagOver = (s.gu.get l).tagOver ∨
        g ∉ (s.gu.get l).tags ∧ (s.gu.get l).tags.length < 4 ∧ list = (s.gu.get l).tags ++ [g] ∧
          tagOver = (s.gu.get l).tagOver ∨
        g ∉ (s.gu.get l).tags ∧ 4 ≤ (s.gu.get l).tags.length ∧ list = (s.gu.get l).tags ∧ tagOver = true) →
      ((s.gu.get l).state = .occupied ∨ (∃ x, (s.gu.get l).state = .refused x) →
        exec (.tagRead l g) s = .next { s with gu := s.gu.set l { s.gu.get l with
          tags := list, tagOver := tagOver, stall := some (s.now + 1000 * s.dt.settings.laneStall) } }) ∧
      ((∃ a m, (s.gu.get l).state = .waiting a m) →
        exec (.tagRead l g) s = .next { s with gu := s.gu.set l { s.gu.get l with tags := list, tagOver := tagOver } }) ∧
      ((s.gu.get l).state = .idle → (s.gu.get l).stopBeam = false →
        exec (.tagRead l g) s = .next { s with gu := s.gu.set l { s.gu.get l with
          tags := list, tagOver := tagOver, state := .occupied, wait := none,
          stall := some (s.now + 1000 * s.dt.settings.laneStall) } }) ∧
      ((s.gu.get l).state = .idle → (s.gu.get l).stopBeam = true →
        (∀ reason, s.refusal list (s.identity list) false = some reason →
          ∃ nt : RefusedNotice, nt.lane = l ∧ nt.reason = reason ∧ nt.tags = list ∧ nt.override = false ∧
            exec (.tagRead l g) s = .next ({ s with gu := s.gu.set l { s.gu.get l with
              tags := list, tagOver := tagOver, state := .refused reason, wait := none,
              stall := some (s.now + 1000 * s.dt.settings.laneStall) } }.notify (.refused nt))) ∧
        (s.refusal list (s.identity list) false = none → s.short = true →
          exec (.tagRead l g) s = .next { s with gu := s.gu.set l { s.gu.get l with
            tags := list, tagOver := tagOver, state := .waiting s.now false, stall := none,
            wait := some (s.now + 300000) } })))

/-- The lane's timers: the stall timer sends LANE_STALL and clears the lane (its barrier pulse too: the model's choice, log
22), the wait timer makes it REFUSED with FULL, and the barrier's pulse ends. Each acts at its time, and only while it runs
(log 2). -/
def Clause.LaneTimersExpire : Prop :=
  ∀ (l : Lane) (due : Nat) (s : State),
    ((s.gu.get l).stall = some due →
      exec (.stallExpiry l) s = .next ({ s with now := max s.now due, gu := s.gu.set l { s.gu.get l with
        state := .idle, count := 0, tags := [], key := none, axleSat := false, reverse := false, tagOver := false,
        stall := none, wait := none, barrierPulse := none } }.notify
          (.laneStall ⟨l, decide ((s.gu.get l).state ≠ LaneState.occupied), (s.gu.get l).count, (s.gu.get l).tags.length⟩))) ∧
    ((s.gu.get l).wait = some due →
      ∃ nt : RefusedNotice, nt.lane = l ∧ nt.reason = .full ∧
        exec (.waitExpiry l) s = .next ({ s with now := max s.now due, gu := s.gu.set l { s.gu.get l with
          state := .refused .full, wait := none, stall := some (max s.now due + 1000 * s.dt.settings.laneStall) } }.notify
            (.refused nt))) ∧
    ((s.gu.get l).barrierPulse = some due →
      exec (.entryBarrierPulseEnd l) s = .next { s with
        now := max s.now due, gu := s.gu.set l { s.gu.get l with barrierPulse := none } }) ∧
    ((s.gu.get l).stall = none → exec (.stallExpiry l) s = .next s) ∧
    ((s.gu.get l).wait = none → exec (.waitExpiry l) s = .next s) ∧
    ((s.gu.get l).barrierPulse = none → exec (.entryBarrierPulseEnd l) s = .next s)

/-- The keypad, the tag reader and the timers of a lane. -/
def Obligations.LaneInputsAndTimers : Prop := Clause.KeysAndTagsTaken ∧ Clause.LaneTimersExpire

/-! ## Bays -/

/-- An exit press, or the loss filter running out, in a WASHING bay whose phase has delivered nothing and holds no supply
channel (nothing being posted, no drain pending): the phase ends CUT_EXIT or ABANDONED, the wash with EXIT or ABANDONED,
the bay is FINISHING, the visit FINISHED and the next to be posted. In RELEASING the press opens the exit barrier again
for 10 s; in EMPTY it has no effect (R69). The filter's row moves the timebase to its time (log 2). -/
def Obligations.WashCutShort : Prop :=
  ∀ (b : Bay) (s : State),
    ((s.bc.get b).state = .releasing →
      exec (.exitButtonPress b) s = .next { s with bc := s.bc.set b { s.bc.get b with
        exitPulse := some (s.now + 10000) } }) ∧
    ((s.bc.get b).state = .empty → exec (.exitButtonPress b) s = .next s) ∧
    (∀ (n : Nat) (v : Visit) (p : PhaseRun), (s.bc.get b).state = .washing → (s.bc.get b).held = some n →
      Table.look s.vq.visits n = some v → s.plan? b = some p → p.visit = n → p.fresh = 0 → p.recycled = 0 →
      s.serving b = none → s.lm.drainPending = none → s.cu.posting = [] → s.cu.writing = none →
      s.lm.vSet ≤ s.dt.settings.pitCapacity →
      (∃ (t : State) (v' : Visit) (r : PhaseResult), exec (.exitButtonPress b) s = .next t ∧
        (t.bc.get b).state = .finishing ∧ (t.bc.get b).held = some n ∧ (t.bc.get b).releaseHold = false ∧
        t.plan? b = none ∧ Table.look t.vq.visits n = some v' ∧ v'.state = .finished ∧ v'.endCause = some .exit ∧
        v'.results = v.results ++ [r] ∧ r.cause = .cutExit ∧ r.number = p.number ∧ r.fresh = 0 ∧ r.recycled = 0 ∧
        t.cu.posting = [.visit n] ∧ t.cu.ring = s.cu.ring ∧ t.lm.vSet = s.lm.vSet ∧ t.lm.vRec = s.lm.vRec ∧
        t.dt = s.dt ∧ t.gu = s.gu ∧ t.vq.queue = s.vq.queue ∧ ∀ b', b' ≠ b → t.bc.get b' = s.bc.get b') ∧
      (∀ due, (s.bc.get b).lossFilter = some due →
        ∃ (t : State) (v' : Visit) (r : PhaseResult), exec (.lossFilterExpiry b) s = .next t ∧
          (t.bc.get b).state = .finishing ∧ t.plan? b = none ∧ Table.look t.vq.visits n = some v' ∧
          v'.state = .finished ∧ v'.endCause = some .abandoned ∧ v'.results = v.results ++ [r] ∧
          r.cause = .abandoned ∧ r.number = p.number ∧ t.cu.posting = [.visit n] ∧ t.now = max s.now due ∧
          t.lm.vSet = s.lm.vSet ∧ t.dt = s.dt ∧ t.gu = s.gu ∧ ∀ b', b' ≠ b → t.bc.get b' = s.bc.get b'))

/-- The call timer of a bay in SEATING, with no bay EMPTY: on a first no-show with room in the queue the visit goes back to
QUEUED at the tail with its no-show count at 1, and the bay stays SEATING with its call gone; on a second, with no lane
WAITING and no pending summary, the visit is cancelled with cause NO_SHOW and its reservation given back. The row moves the
timebase to its timer's time (log 2). -/
def Obligations.CallTimesOut : Prop :=
  ∀ (b : Bay) (n due : Nat) (v : Visit) (s : State), (s.bc.get b).state = .seating →
    (s.bc.get b).callTimer = some due → (s.bc.get b).called = some n → Table.look s.vq.visits n = some v →
    NoEmptyBay s →
    (v.noShow = 0 → s.vq.queue.length < 24 →
      exec (.callTimerExpiry b) s = .next { s with
        now := max s.now due
        vq := { s.vq with
          visits := Table.upd s.vq.visits n fun v => { v with state := .queued, bay := none, noShow := 1 }
          queue := s.vq.queue ++ [n]
          called := s.vq.called.filter fun m => decide (m ≠ n) }
        bc := s.bc.set b { s.bc.get b with called := none, callTimer := none, lamp := false } }) ∧
    (1 ≤ v.noShow → NoWaitingLane s → s.cu.pendingSummary = none →
      ∃ t, exec (.callTimerExpiry b) s = .next t ∧
        t.vq = { s.vq with visits := Table.del s.vq.visits n,
                           called := s.vq.called.filter fun m => decide (m ≠ n) } ∧
        t.bc = s.bc.set b { s.bc.get b with called := none, callTimer := none, lamp := false } ∧
        t.cu = { s.cu with reservations := s.cu.reservations - 1 } ∧
        t.lp = (s.notify (.cancelled ⟨n, v.lane, v.account, .called, some b, .noShow⟩)).lp ∧
        t.dt = s.dt ∧ t.lm = s.lm ∧ t.pr = s.pr)

/-- The settle running out: without a call the bay is STRAY and tells so; with a call, in OPEN or HOLD with the lines filled
and a programme that begins with a DRY phase, the visit is IN_BAY, off the Called List, its bay WASHING with phase 1
RUNNING. The row moves the timebase to its timer's time (log 2). -/
def Obligations.SettleRunsOut : Prop :=
  ∀ (b : Bay) (due : Nat) (s : State), (s.bc.get b).settleTimer = some due →
    ((s.bc.get b).called = none →
      exec (.settleTimerExpiry b) s = .next ({ s with now := max s.now due, bc := s.bc.set b { s.bc.get b with
        state := .stray, settleTimer := none } }.notify
          (.stray b (s.bc.get b).wheelStop (s.bc.get b).rearBeam false))) ∧
    (∀ (n : Nat) (v : Visit) (pr : Programme) (r : PhaseRecord) (rest : List PhaseRecord),
      (s.bc.get b).called = some n → Table.look s.vq.visits n = some v →
      s.dt.programmes.get v.programme = some pr → pr.phases = r :: rest → r.kind = .dry →
      washes s.lm.mode = true → (s.bc.get b).lineFilled = true → s.plan? b = none →
      (∀ l : Lane, (s.gu.get l).state = .idle) →
      ∃ (t : State) (run : PhaseRun), exec (.settleTimerExpiry b) s = .next t ∧
        (t.bc.get b).state = .washing ∧ (t.bc.get b).held = some n ∧ (t.bc.get b).called = none ∧
        (t.bc.get b).lamp = false ∧ (t.bc.get b).callTimer = none ∧ (t.bc.get b).settleTimer = none ∧
        t.vq = { s.vq with visits := Table.upd s.vq.visits n fun v => { v with state := .inBay },
                           called := s.vq.called.filter fun m => decide (m ≠ n) } ∧
        t.plan? b = some run ∧ run.visit = n ∧ run.number = 1 ∧ run.record = r ∧ run.stage = .running ∧
        run.fresh = 0 ∧ run.recycled = 0 ∧ t.gu = s.gu ∧ t.dt = s.dt ∧ t.lm = s.lm ∧ t.sa = s.sa ∧ t.cu = s.cu)

/-- A presence sensor, either of the two. A CALLED bay whose sensors become both active enters SEATING with the settle
running. An EMPTY bay with one become active starts its sensor timer; with both it enters SEATING; with none left the
sensor timer stops. A WASHING bay that is no longer seated starts the loss filter of 2 s, unless it runs, and stops it
when seated again. A level that is not new changes nothing. -/
def Clause.PresenceTaken : Prop :=
  ∀ (b : Bay) (s : State),
    (exec (.presenceSensorChange b .wheelStop (s.bc.get b).wheelStop) s = .next s ∧
      exec (.presenceSensorChange b .rearBeam (s.bc.get b).rearBeam) s = .next s) ∧
    ((s.bc.get b).state = .called ∨ (s.bc.get b).state = .empty →
      ((s.bc.get b).wheelStop = true → (s.bc.get b).rearBeam = false →
        exec (.presenceSensorChange b .rearBeam true) s = .next { s with bc := s.bc.set b { s.bc.get b with
          rearBeam := true, state := .seating, sensorTimer := none,
          settleTimer := some (s.now + 1000 * s.dt.settings.seatingSettle) } }) ∧
      ((s.bc.get b).wheelStop = false → (s.bc.get b).rearBeam = true →
        exec (.presenceSensorChange b .wheelStop true) s = .next { s with bc := s.bc.set b { s.bc.get b with
          wheelStop := true, state := .seating, sensorTimer := none,
          settleTimer := some (s.now + 1000 * s.dt.settings.seatingSettle) } })) ∧
    ((s.bc.get b).state = .empty →
      ((s.bc.get b).wheelStop = false → (s.bc.get b).rearBeam = false → (s.bc.get b).sensorTimer = none →
        exec (.presenceSensorChange b .wheelStop true) s = .next { s with bc := s.bc.set b { s.bc.get b with
          wheelStop := true, sensorTimer := some (s.now + 1000 * s.dt.settings.callTimeout) } } ∧
        exec (.presenceSensorChange b .rearBeam true) s = .next { s with bc := s.bc.set b { s.bc.get b with
          rearBeam := true, sensorTimer := some (s.now + 1000 * s.dt.settings.callTimeout) } }) ∧
      ((s.bc.get b).wheelStop = true → (s.bc.get b).rearBeam = false →
        exec (.presenceSensorChange b .wheelStop false) s = .next { s with bc := s.bc.set b { s.bc.get b with
          wheelStop := false, sensorTimer := none } }) ∧
      ((s.bc.get b).wheelStop = false → (s.bc.get b).rearBeam = true →
        exec (.presenceSensorChange b .rearBeam false) s = .next { s with bc := s.bc.set b { s.bc.get b with
          rearBeam := false, sensorTimer := none } })) ∧
    ((s.bc.get b).state = .washing →
      ((s.bc.get b).rearBeam = true →
        exec (.presenceSensorChange b .rearBeam false) s = .next { s with bc := s.bc.set b { s.bc.get b with
          rearBeam := false, lossFilter := some ((s.bc.get b).lossFilter.getD (s.now + 2000)) } }) ∧
      ((s.bc.get b).wheelStop = true →
        exec (.presenceSensorChange b .wheelStop false) s = .next { s with bc := s.bc.set b { s.bc.get b with
          wheelStop := false, lossFilter := some ((s.bc.get b).lossFilter.getD (s.now + 2000)) } }) ∧
      ((s.bc.get b).wheelStop = true → (s.bc.get b).rearBeam = false →
        exec (.presenceSensorChange b .rearBeam true) s = .next { s with bc := s.bc.set b { s.bc.get b with
          rearBeam := true, lossFilter := none } }) ∧
      ((s.bc.get b).wheelStop = false → (s.bc.get b).rearBeam = true →
        exec (.presenceSensorChange b .wheelStop true) s = .next { s with bc := s.bc.set b { s.bc.get b with
          wheelStop := true, lossFilter := none } }))

/-- The other bay timers: the exit pulse ends, the exit stall timer sets last fault EXIT_STALL and tells so, the sensor
timer sets SENSOR and sends BAY_STATE, which names the bay's state as the one entered (log 36). Each acts at its time and
only while it runs (log 2). -/
def Clause.BayTimersExpire : Prop :=
  ∀ (b : Bay) (due : Nat) (s : State),
    ((s.bc.get b).exitPulse = some due →
      exec (.exitPulseExpiry b) s = .next { s with
        now := max s.now due, bc := s.bc.set b { s.bc.get b with exitPulse := none } }) ∧
    ((s.bc.get b).exitStall = some due →
      exec (.exitStallExpiry b) s = .next ({ s with now := max s.now due, bc := s.bc.set b { s.bc.get b with
        exitStall := none, lastFault := .exitStall } }.notify (.exitStall b (s.bc.get b).held))) ∧
    ((s.bc.get b).sensorTimer = some due →
      ∃ nt : BayStateNotice, nt.bay = b ∧ nt.entered = (s.bc.get b).state ∧ nt.lastFault = .sensor ∧
        exec (.sensorTimerExpiry b) s = .next ({ s with now := max s.now due, bc := s.bc.set b { s.bc.get b with
          sensorTimer := none, lastFault := .sensor } }.notify (.bayState nt))) ∧
    ((s.bc.get b).exitPulse = none → exec (.exitPulseExpiry b) s = .next s) ∧
    ((s.bc.get b).exitStall = none → exec (.exitStallExpiry b) s = .next s) ∧
    ((s.bc.get b).sensorTimer = none → exec (.sensorTimerExpiry b) s = .next s)

/-- The presence sensors and the timers of a bay. -/
def Obligations.BaySensorsAndTimers : Prop := Clause.PresenceTaken ∧ Clause.BayTimersExpire

/-! ## Phases -/

/-- A meter pulse: with no phase, or with its valve shut whatever the phase's kind and stage, it is a stray pulse (to
65535); and the valves of a phase are shut as it starts in READING, as a DRY phase goes on to run, and in PAUSED. One
counted short of its target adds a litre to the phase and to the book, a fresh one to F and a recycled one out of V_rec;
the fresh valve shuts at the fresh target. -/
def Obligations.MeterPulseBooked : Prop :=
  ∀ (b : Bay) (s : State),
    (∀ m, s.plan? b = none →
      exec (.meterPulse b m) s = .next { s with pr := s.pr.set b { s.pr.get b with
        stray := min 65535 ((s.pr.get b).stray + 1) } }) ∧
    (∀ p : PhaseRun, s.plan? b = some p →
      (p.freshOpen = false →
        exec (.meterPulse b .fresh) s = .next { s with pr := s.pr.set b { s.pr.get b with
          stray := min 65535 ((s.pr.get b).stray + 1) } }) ∧
      (p.recycledOpen = false →
        exec (.meterPulse b .recycled) s = .next { s with pr := s.pr.set b { s.pr.get b with
          stray := min 65535 ((s.pr.get b).stray + 1) } })) ∧
    (∀ (visit number length now at_ : Nat) (r : PhaseRecord) (p : PhaseRun), p = .begin visit number length now r →
      p.freshOpen = false ∧ p.recycledOpen = false ∧ (p.run at_).freshOpen = false ∧ (p.run at_).recycledOpen = false) ∧
    (∀ (p : PhaseRun) (at_ : Nat), (p.pause at_).freshOpen = false ∧ (p.pause at_).recycledOpen = false) ∧
    (∀ (p : PhaseRun) (f : PlanFigures), s.plan? b = some p → p.figures = some f →
      (p.freshOpen = true → p.fresh + 1 < f.fresh ∨ p.recycled < f.recycled →
        exec (.meterPulse b .fresh) s = .next { s with
          pr := s.pr.set b { s.pr.get b with
            plan := some { p with fresh := p.fresh + 1, freshOpen := decide (p.fresh + 1 < f.fresh) } }
          lm := { s.lm with freshIn := s.lm.freshIn + 1 } }) ∧
      (p.recycledOpen = true → p.recycled + 1 < f.recycled →
        ∃ t, exec (.meterPulse b .recycled) s = .next t ∧
          t.pr = s.pr.set b { s.pr.get b with plan := some { p with recycled := p.recycled + 1 } } ∧
          t.lm.vRec = s.lm.vRec - 1 ∧ t.lm.vSet = s.lm.vSet ∧ t.lm.freshIn = s.lm.freshIn ∧ t.dt = s.dt ∧
          t.bc = s.bc ∧ t.vq = s.vq ∧ t.cu = s.cu ∧ t.lp = s.lp ∧ t.sa.requests = s.sa.requests))

/-- The last phase of a wash, holding no supply channel and having delivered nothing, reaching a limit (no drain pending,
nothing being posted): a DRY phase at its time limit ends COMPLETE, a WET one SHORT_TIME, and a PAUSED one at the wait
limit WAIT_LIMIT with its request withdrawn; each result is appended, and the wash ends COMPLETE. In another stage a limit
has no effect, and each acts at its time (log 2). -/
def Clause.PhaseLimits : Prop :=
  ∀ (b : Bay) (n : Nat) (v : Visit) (p : PhaseRun) (s : State), (s.bc.get b).state = .washing →
    (s.bc.get b).held = some n → Table.look s.vq.visits n = some v → s.plan? b = some p → p.visit = n →
    p.fresh = 0 → p.recycled = 0 → s.serving b = none → s.phaseCount n ≤ p.number → s.lm.drainPending = none →
    s.cu.posting = [] → s.cu.writing = none → s.lm.vSet ≤ s.dt.settings.pitCapacity →
    (p.stage = .running →
      ∃ (t : State) (v' : Visit) (r : PhaseResult), exec (.phaseTimeLimit b) s = .next t ∧
        t.now = max s.now (p.since + (1000 * p.record.timeLimit - p.runMs)) ∧
        (t.bc.get b).state = .finishing ∧ t.plan? b = none ∧ Table.look t.vq.visits n = some v' ∧
        v'.state = .finished ∧ v'.endCause = some .complete ∧ v'.results = v.results ++ [r] ∧
        (p.record.kind = .dry → r.cause = .complete) ∧ (p.record.kind = .wet → r.cause = .shortTime) ∧
        t.cu.posting = [.visit n] ∧ t.dt = s.dt ∧ t.gu = s.gu ∧ t.lm.vSet = s.lm.vSet ∧
        ∀ b', b' ≠ b → t.bc.get b' = s.bc.get b') ∧
    (p.stage = .paused →
      ∃ (t : State) (v' : Visit) (r : PhaseResult), exec (.waitLimit b) s = .next t ∧
        t.now = max s.now (p.since + (600000 - p.pauseMs)) ∧ (t.bc.get b).state = .finishing ∧ t.plan? b = none ∧
        t.sa.requests.get b = false ∧ Table.look t.vq.visits n = some v' ∧ v'.state = .finished ∧
        v'.endCause = some .complete ∧ v'.results = v.results ++ [r] ∧ r.cause = .waitLimit ∧
        t.cu.posting = [.visit n] ∧ t.dt = s.dt ∧ t.gu = s.gu ∧ t.lm.vSet = s.lm.vSet) ∧
    (p.stage = .reading → exec (.phaseTimeLimit b) s = .next s ∧ exec (.waitLimit b) s = .next s)

/-- The end of a phase that has delivered water, at its time limit (the last of its wash, holding no supply channel, no
drain pending, nothing being posted): the carry-off, floor(delivered * carry-off / 1000), joins K and the phase's result, the
rest returns to the pit, whose excess over its capacity is discharged and counted in the day's totals; the delivered
fresh joins used today (to 4,294,967,295) and the bay's reservation goes, the others stand (R162, R133). -/
def Clause.PhaseEndReturnsWater : Prop :=
  ∀ (b : Bay) (n : Nat) (v : Visit) (p : PhaseRun) (s : State), (s.bc.get b).state = .washing →
    (s.bc.get b).held = some n → Table.look s.vq.visits n = some v → s.plan? b = some p → p.visit = n →
    p.stage = .running → s.serving b = none → s.phaseCount n ≤ p.number → s.lm.drainPending = none →
    s.cu.posting = [] → s.cu.writing = none → s.dt.settings.carryOff ≤ 1000 →
    ∃ (t : State) (v' : Visit) (r : PhaseResult) (carry back : Nat), exec (.phaseTimeLimit b) s = .next t ∧
      carry = (p.fresh + p.recycled) * s.dt.settings.carryOff / 1000 ∧ carry + back = p.fresh + p.recycled ∧
      t.lm.carried = s.lm.carried + carry ∧ t.lm.vRec = s.lm.vRec ∧ t.lm.freshIn = s.lm.freshIn ∧
      (s.lm.vSet + back ≤ s.dt.settings.pitCapacity →
        t.lm.vSet = s.lm.vSet + back ∧ t.lm.discharged = s.lm.discharged ∧ t.cu.totals = s.cu.totals) ∧
      (s.dt.settings.pitCapacity < s.lm.vSet + back → t.lm.vSet = s.dt.settings.pitCapacity ∧
        (t.lm.discharged : Int) = s.lm.discharged + (s.lm.vSet + back - s.dt.settings.pitCapacity) ∧
        t.cu.totals = { s.cu.totals with
          discharged :=
            min 4294967295 (s.cu.totals.discharged + (s.lm.vSet + back - s.dt.settings.pitCapacity).toNat) }) ∧
      t.bu = ⟨min 4294967295 (s.bu.usedToday + p.fresh), s.bu.reservations.set b none⟩ ∧
      t.leftSide - t.lm.rightSide = s.leftSide - s.lm.rightSide ∧ t.plan? b = none ∧
      Table.look t.vq.visits n = some v' ∧ v'.results = v.results ++ [r] ∧ r.number = p.number ∧ r.fresh = p.fresh ∧
      r.recycled = p.recycled ∧ r.carryOff = carry ∧ r.figures = p.figures ∧ r.flags = p.flags ∧
      v'.endCause = some .complete ∧ (t.bc.get b).state = .finishing ∧ t.cu.posting = [.visit n] ∧ t.dt = s.dt ∧
      t.gu = s.gu

/-- The time limit and the wait limit of a phase, and the water of a phase end. -/
def Obligations.PhaseLimitsEndPhases : Prop := Clause.PhaseLimits ∧ Clause.PhaseEndReturnsWater

/-- The nozzle generator's times: DELAY goes to ON for the on time, ON to OFF for the rest of the frame, OFF to the next
frame's ON; the last frame of a segment adds it to the segments covered and moves the sweep on. The row moves the
timebase to the generator's time (log 2). -/
def Clause.NozzleMoves : Prop :=
  ∀ (b : Bay) (p : PhaseRun) (due : Nat) (s : State), s.plan? b = some p → p.gen.due = some due →
    (p.gen.state = .delay →
      exec (.nozzleTimeout b) s = .next { s with now := max s.now due, pr := s.pr.set b { s.pr.get b with
        plan := some { p with gen := ⟨.on, 0, some (max s.now due + 100 * p.record.nozzleOn), 0⟩ } } }) ∧
    (p.gen.state = .on →
      exec (.nozzleTimeout b) s = .next { s with now := max s.now due, pr := s.pr.set b { s.pr.get b with
        plan := some { p with gen := ⟨.off, p.gen.frames,
          some (max s.now due + 100 * (p.record.nozzleFrame - p.record.nozzleOn)), 0⟩ } } }) ∧
    (p.gen.state = .off → p.gen.frames + 1 < p.record.framesPerSegment →
      exec (.nozzleTimeout b) s = .next { s with now := max s.now due, pr := s.pr.set b { s.pr.get b with
        plan := some { p with gen := ⟨.on, p.gen.frames + 1, some (max s.now due + 100 * p.record.nozzleOn), 0⟩ } } }) ∧
    (p.gen.state = .off → p.record.framesPerSegment ≤ p.gen.frames + 1 →
      ∃ (t : State) (q : PhaseRun), exec (.nozzleTimeout b) s = .next t ∧ t = { s with now := max s.now due, pr := t.pr } ∧
        t.plan? b = some q ∧ q.gen = ⟨.on, 0, some (max s.now due + 100 * p.record.nozzleOn), 0⟩ ∧
        p.segmentAt p.sweepPos ∈ q.covered ∧ (∀ g ∈ p.covered, g ∈ q.covered) ∧
        q.sweepPos = (p.sweepPos + 1) % (sweepOrder p.record p.length).length ∧ q.fresh = p.fresh ∧
        q.recycled = p.recycled)

/-- The sweep order of each mode: LINEAR and HYBRID name every segment once, WRAP every segment of the start segment's
group once and no other. -/
def Clause.SweepOrderNamesSegments : Prop :=
  ∀ (r : PhaseRecord) (lv : Nat), 0 < lv → 0 < r.sweepGroup →
    (sweepOrder r lv).Nodup ∧
    (r.sweepMode = .linear ∨ r.sweepMode = .hybrid → ∀ g, g ∈ sweepOrder r lv ↔ g < lv) ∧
    (r.sweepMode = .wrap → ∀ g, g ∈ sweepOrder r lv ↔
      g < lv ∧ g / r.sweepGroup = min r.startSegment (lv - 1) / r.sweepGroup) ∧
    (sweepOrder r lv).head? = some (min r.startSegment (lv - 1))

/-- The nozzle generator and the sweep order. -/
def Obligations.NozzlesAndSweeps : Prop := Clause.NozzleMoves ∧ Clause.SweepOrderNamesSegments

/-! ## Blend -/

/-- Stages 1 and 4 to 7: the limits are the record's, or relaxed by its percentage where the allowance is below the
threshold; the recorded fraction is 0 under ZERO, and else the least of the two fractions and the cap; LOWREC is raised
when the recycled share exceeds avail, and holds it at avail; SHORT is raised when the fresh share exceeds A, and scales the
volume to floor(V * A / Vf) with planned fresh A; a plan that is neither is the split of V by the fraction; and every plan that
runs has planned fresh plus planned recycled equal to V', V' in 10..V, planned recycled times 1000 at most r times V',
planned fresh at most A and planned recycled at most avail. -/
def Clause.PlanFitsItsLimits : Prop :=
  ∀ (r : PhaseRecord) (u : ReadingsUsed) (avail a debt threshold : Nat) (f : PlanFigures) (q : PlanResult), 10 ≤ r.volume →
    r.cap ≤ 1000 → q = planPhase r u avail a debt threshold → q.outcome = .plan → q.figures = some f →
      (a < threshold → 100 < r.relax → q.climit = r.condLimit * r.relax / 100 ∧ q.tlimit = r.turbLimit * r.relax / 100) ∧
      (threshold ≤ a ∨ r.relax ≤ 100 → q.climit = r.condLimit ∧ q.tlimit = r.turbLimit) ∧
      (q.action = .zero → f.r = 0 ∧ f.recycled = 0) ∧
      (q.action ≠ .zero → f.r =
        min (min (fraction q.climit u.cr.value u.cf.value) (fraction q.tlimit u.tr.value u.tf.value)) r.cap) ∧
      f.r ≤ r.cap ∧
      (q.flags.lowRec = true ↔ avail < r.volume * f.r / 1000) ∧
      (q.flags.short = true ↔ a < r.volume - min (r.volume * f.r / 1000) avail) ∧
      (q.flags.short = false → f.volume = r.volume ∧ f.recycled = min (r.volume * f.r / 1000) avail) ∧
      (q.flags.short = true →
        f.volume = r.volume * a / (r.volume - min (r.volume * f.r / 1000) avail) ∧ f.fresh = a) ∧
      f.fresh + f.recycled = f.volume ∧ 10 ≤ f.volume ∧ f.volume ≤ r.volume ∧ f.recycled * 1000 ≤ f.r * f.volume ∧
      f.fresh ≤ a ∧ f.recycled ≤ avail

/-- Stage 3 (R127): the greatest share of recycled water, in per-mille, that keeps a parameter within its limit: each row of
the table, and no greater share keeps it. -/
def Clause.FractionKeepsLimit : Prop :=
  ∀ (limit : Nat) (xr xf : Int),
    (xr ≤ limit → fraction limit xr xf = 1000) ∧
    ((limit : Int) < xr → (limit : Int) ≤ xf → fraction limit xr xf = 0) ∧
    ((limit : Int) < xr → xf < limit →
      (fraction limit xr xf : Int) = 1000 * (limit - xf) / (xr - xf) ∧ fraction limit xr xf ≤ 999 ∧
      (fraction limit xr xf : Int) * xr + (1000 - fraction limit xr xf) * xf ≤ 1000 * limit) ∧
    (∀ k : Nat, fraction limit xr xf < k → k ≤ 1000 → (1000 * limit : Int) < k * xr + (1000 - k) * xf)

/-- The figures of a plan and the fraction of a parameter. -/
def Obligations.BlendKeepsItsLimits : Prop := Clause.PlanFitsItsLimits ∧ Clause.FractionKeepsLimit

/-! ## Sampler -/

/-- The calibration (R109) runs from lo at code 0 to hi at code 1023, rises with the code and is less than one unit above
the exact line; the compensation (R110) leaves a value at 25 degrees and is less than one unit above the exact
quotient. -/
def Obligations.ReadingsCalibrated : Prop :=
  (∀ (lo hi : Int) (code : BitVec 10), lo < hi →
    calibrate lo hi 0 = lo ∧ calibrate lo hi 1023 = hi ∧ lo ≤ calibrate lo hi code ∧ calibrate lo hi code ≤ hi ∧
    0 ≤ 1023 * (calibrate lo hi code - lo) - code.toNat * (hi - lo) ∧
    1023 * (calibrate lo hi code - lo) - code.toNat * (hi - lo) < 1023) ∧
  (∀ ct t : Int, compensate ct 25 = ct ∧
    (-10 ≤ holdTemp t ∧ holdTemp t ≤ 50) ∧
    0 ≤ compensate ct (holdTemp t) * (1000 + 20 * (holdTemp t - 25)) - ct * 1000 ∧
    compensate ct (holdTemp t) * (1000 + 20 * (holdTemp t - 25)) - ct * 1000 < 1000 + 20 * (holdTemp t - 25))

/-- A conversion completing with no demand standing: its channel's reading becomes the calibrated value of the code with
the time, the clamp mark of an end code, and valid; CH0's is compensated to 25 degrees by a valid CH2 reading of at most
60 s, held to -10..50, and else is DEFAULT; the other readings stand, and the converter is idle or converting again. (Of
CH5 with auto-frost OFF, so that no mode follows: the clause below has it ON.) With the converter idle the row has no
effect, and the completion comes at its time (log 2). -/
def Clause.ConversionMakesReading : Prop :=
  ∀ (ch : Channel) (until_ : Nat) (code : BitVec 10) (s : State),
    (s.qs.converter = .idle → exec (.conversionCompletion code) s = .next s) ∧
    (s.qs.converter = .converting ch until_ → NoDemand s → (ch = .ch5 → s.dt.settings.autoFrost = false) →
      ∃ t, exec (.conversionCompletion code) s = .next t ∧
        t = { s with now := max s.now until_, qs := t.qs } ∧
        (t.qs.readings.getCh ch).code = code ∧ (t.qs.readings.getCh ch).valid = true ∧
        (t.qs.readings.getCh ch).takenAt = some (max s.now until_) ∧
        (t.qs.readings.getCh ch).clamp = (decide (code.toNat = 0) || decide (code.toNat = 1023)) ∧
        (ch ≠ .ch0 → (t.qs.readings.getCh ch).value =
          calibrate (s.dt.settings.calLo.getCh ch) (s.dt.settings.calHi.getCh ch) code) ∧
        (ch = .ch0 →
          (∀ at_, (s.qs.readings.getCh .ch2).valid = true → (s.qs.readings.getCh .ch2).takenAt = some at_ →
            max s.now until_ - at_ ≤ 60000 →
            (t.qs.readings.getCh .ch0).compensated = true ∧
            (t.qs.readings.getCh .ch0).tempUsed = max (-10) (min 50 (s.qs.readings.getCh .ch2).value) ∧
            (t.qs.readings.getCh .ch0).value =
              compensate (calibrate (s.dt.settings.calLo.getCh .ch0) (s.dt.settings.calHi.getCh .ch0) code)
                (max (-10) (min 50 (s.qs.readings.getCh .ch2).value))) ∧
          ((s.qs.readings.getCh .ch2).valid = false ∨
              (∃ at_, (s.qs.readings.getCh .ch2).takenAt = some at_ ∧ 60000 < max s.now until_ - at_) →
            (t.qs.readings.getCh .ch0).compensated = false ∧ (t.qs.readings.getCh .ch0).tempUsed = 25 ∧
            (t.qs.readings.getCh .ch0).value =
              calibrate (s.dt.settings.calLo.getCh .ch0) (s.dt.settings.calHi.getCh .ch0) code)) ∧
        (∀ c, c ≠ ch → t.qs.readings.getCh c = s.qs.readings.getCh c) ∧
        (t.qs.converter = .idle ∨ ∃ c u, t.qs.converter = .converting c u) ∧ t.qs.ch1Held = s.qs.ch1Held)

/-- The background period of a channel running out for an idle converter with no demand, when it is the first channel
due (the earlier ones have valid readings within their periods, or are CH1 held; CH1 itself not held), starts its
conversion; for a busy converter it changes nothing but the time, and for an invalid reading nothing. The turbidity
hold's end frees CH1. Each expiry acts at its time, and only while it runs (log 2). -/
def Clause.SamplerTimersAct : Prop :=
  (∀ (ch : Channel) (before after : List Channel) (at_ : Nat) (s : State),
    ((s.qs.readings.getCh ch).valid = false → exec (.backgroundPeriodDue ch) s = .next s) ∧
    ((s.qs.readings.getCh ch).valid = true → (s.qs.readings.getCh ch).takenAt = some at_ →
      ∀ m, m = max s.now (at_ + 1000 * s.dt.settings.probePeriod.getCh ch) →
      ((∃ c u, s.qs.converter = .converting c u) → exec (.backgroundPeriodDue ch) s = .next { s with now := m }) ∧
      (s.qs.converter = .idle → NoDemand s → Channel.all = before ++ ch :: after → (ch = .ch1 → s.qs.ch1Held = false) →
        (∀ c ∈ before, (c = .ch1 ∧ s.qs.ch1Held = true) ∨ ((s.qs.readings.getCh c).valid = true ∧
          ∃ taken, (s.qs.readings.getCh c).takenAt = some taken ∧ m - taken < 1000 * s.dt.settings.probePeriod.getCh c)) →
        exec (.backgroundPeriodDue ch) s = .next { s with now := m, qs := { s.qs with
          converter := .converting ch (m + 1000 * s.dt.settings.probeSettle.getCh ch) } }))) ∧
  ∀ (s : State) (due : Nat),
    (s.qs.holdTimer = some due →
      ∃ t, exec .holdTimerExpiry s = .next t ∧ t = { s with now := max s.now due, qs := t.qs } ∧
        t.qs.ch1Held = false ∧ t.qs.holdTimer = none ∧ t.qs.readings = s.qs.readings ∧ t.qs.demands = s.qs.demands) ∧
    (s.qs.holdTimer = none → exec .holdTimerExpiry s = .next s)

/-- A CH5 reading with auto-frost ON, no drain pending, and the depot otherwise at rest: below the hold threshold it moves
OPEN to HOLD with origin FROST; at or above the threshold plus 2 it moves a HOLD of origin FROST to OPEN; each move
sends MODE with cause FROST. Any other reading leaves the mode. A reading below the drain threshold starts the persist timer
unless it runs, and another stops it (R170, R171). The completion comes at its time (log 2). -/
def Clause.AirReadingHolds : Prop :=
  ∀ (until_ : Nat) (code : BitVec 10) (value : Int) (m : Nat) (s : State), s.qs.converter = .converting .ch5 until_ →
    NoDemand s → s.dt.settings.autoFrost = true → s.lm.drainPending = none → LanesIdle s → NoCall s → BaysSteady s →
    SupplyCalm s → value = calibrate (s.dt.settings.calLo.getCh .ch5) (s.dt.settings.calHi.getCh .ch5) code →
    m = max s.now until_ →
    (∀ (new : DepotMode) (origin : Option HoldOrigin),
      (s.lm.mode = .opened ∧ value < s.dt.settings.holdThreshold ∧ new = .hold ∧ origin = some .frost) ∨
        (s.lm.mode = .hold ∧ s.lm.holdOrigin = some .frost ∧ s.dt.settings.holdThreshold + 2 ≤ value ∧ new = .opened ∧
          origin = none) →
      ∃ (t : State) (nt : ModeNotice), exec (.conversionCompletion code) s = .next t ∧
        t = { s with now := m, qs := t.qs, lp := (s.notify (.mode nt)).lp, sa := { s.sa with purgeTimer := t.sa.purgeTimer },
                     lm := { s.lm with mode := new, holdOrigin := origin, reclaim := t.lm.reclaim,
                                       persist := t.lm.persist } } ∧
        nt.entered = new ∧ nt.left = s.lm.mode ∧ nt.cause = .frost ∧ nt.holdOrigin = origin ∧ nt.ch5Value = value ∧
        t.lm.persist = (if value < s.dt.settings.drainThreshold
          then some (s.lm.persist.getD (m + 1000 * s.dt.settings.persistTime)) else none)) ∧
    ((s.lm.mode = .opened ∧ s.dt.settings.holdThreshold ≤ value) ∨
        (s.lm.mode = .hold ∧ (value < s.dt.settings.holdThreshold + 2 ∨ s.lm.holdOrigin ≠ some .frost)) →
      ∃ t, exec (.conversionCompletion code) s = .next t ∧
        t = { s with now := m, qs := t.qs, lm := { s.lm with persist := (if value < s.dt.settings.drainThreshold
          then some (s.lm.persist.getD (m + 1000 * s.dt.settings.persistTime)) else none) } })

/-- CONVERSION_COMPLETION, BACKGROUND_PERIOD_DUE and HOLD_TIMER_EXPIRY. -/
def Obligations.ConversionsAndSamplerTimers : Prop :=
  Clause.ConversionMakesReading ∧ Clause.SamplerTimersAct ∧ Clause.AirReadingHolds

/-! ## Supply -/

/-- The derived figures of the supply (R139): the spacing is the filter interval shared among the cartridges of the mask,
Draw_max half the spacing, both floored; with the defaults 900 s and 450 s, with three
cartridges 1,200 s and 600 s. The next cartridge to purge is in the mask. -/
def Obligations.SpacingAndNextCartridge : Prop :=
  (∀ t : Settings, t.spacing = t.filterInterval / ([t.cartMask.f1, t.cartMask.f2, t.cartMask.f3, t.cartMask.f4].count true) ∧
    t.drawMax = t.spacing / 2) ∧
  coldSettings.spacing = 900 ∧ coldSettings.drawMax = 450 ∧
  (let three := { coldSettings with cartMask := ⟨true, false, true, true⟩ }; three.spacing = 1200 ∧ three.drawMax = 600) ∧
  (∀ (m : Four Bool) (c : Cart), m ≠ ⟨false, false, false, false⟩ → m.get (nextCart m c) = true) ∧
  nextCart ⟨true, true, false, true⟩ .cart2 = .cart4 ∧ nextCart ⟨false, true, false, false⟩ .cart4 = .cart2

/-- The start lead running out grants the channel: GRANTED with the grant timer, and the bay's PAUSED phase is RUNNING with
the recycled valve open. The run-on timer running out, with no request standing, makes the channel IDLE. Each expiry acts
at its time, and of an IDLE channel has no effect (log 2). -/
def Clause.GrantBegins : Prop :=
  ∀ (ch : Supply) (due : Nat) (s : State),
    (∀ (b : Bay) (p : PhaseRun), s.channel ch = .starting b due → s.plan? b = some p → p.stage = .paused →
      p.requested = true →
      ∃ (t : State) (q : PhaseRun), exec (.pumpStartLeadExpiry ch) s = .next t ∧
        t = { s with now := max s.now due, sa := t.sa, pr := t.pr } ∧
        t.channel ch = .granted b (max s.now due + 1000 * s.dt.settings.grantTimeout) ∧ t.sa.requests = s.sa.requests ∧
        t.sa.priority = s.sa.priority ∧ t.sa.debt = s.sa.debt ∧
        t.plan? b = some q ∧ q.stage = .running ∧ q.grant = some ch ∧ q.requested = false ∧ q.recycledOpen = true ∧
        q.freshOpen = decide (p.fresh < p.plannedFresh) ∧ q.fresh = p.fresh ∧ q.recycled = p.recycled ∧
        ∀ b', b' ≠ b → t.pr.get b' = s.pr.get b') ∧
    (s.channel ch = .runOn due → s.sa.requests = Six.all false →
      exec (.runOnExpiry ch) s = .next { s with
        now := max s.now due, sa := { s.sa with channels := s.sa.channels.setChan ch .idle } }) ∧
    (s.channel ch = .idle →
      exec (.pumpStartLeadExpiry ch) s = .next s ∧ exec (.grantTimeout ch) s = .next s ∧
        exec (.drawMaxCut ch) s = .next s ∧ exec (.runOnExpiry ch) s = .next s)

/-- The grant pass at a channel's coming free (the run-on timer running out, the other channel busy) with a request standing
and nothing that forbids a grant: the channel is allotted to the first bay of the priority order whose request stands, it
is STARTING with the start lead, and the bay leaves the request set and moves to the end of the order (R142, R143). Where
something forbids it, the channel is IDLE and the requests stand. The timer acts at its time (log 2). -/
def Clause.ChannelAllotted : Prop :=
  ∀ (ch other : Supply) (due : Nat) (s : State), ch ≠ other → s.channel ch = .runOn due →
    (s.channel other).busy = true →
    (∀ (b : Bay) (before after : List Bay), s.sa.priority = before ++ b :: after →
      (∀ c ∈ before, s.sa.requests.get c = false) → s.sa.requests.get b = true → b ∉ after →
      s.lm.mode = .opened ∨ s.lm.mode = .hold → s.sa.purge = none →
      (s.dt.settings.reserveFloor : Int) < s.lm.vRec →
      (s.dt.settings.leadMode = .variable → s.sa.debt = 0) →
      (s.dt.settings.leadMode = .fixed → s.sa.cycle = .window) → 0 < s.dt.settings.startLead →
      exec (.runOnExpiry ch) s = .next { s with now := max s.now due, sa := { s.sa with
        channels := s.sa.channels.setChan ch (.starting b (max s.now due + 1000 * s.dt.settings.startLead))
        requests := s.sa.requests.set b false
        priority := before ++ after ++ [b] } }) ∧
    ((s.lm.mode ≠ .opened ∧ s.lm.mode ≠ .hold) ∨ s.sa.purge ≠ none ∨ s.lm.vRec ≤ (s.dt.settings.reserveFloor : Int) ∨
        (s.dt.settings.leadMode = .variable ∧ 1 ≤ s.sa.debt) ∨
        (s.dt.settings.leadMode = .fixed ∧ s.sa.cycle = .slot) →
      exec (.runOnExpiry ch) s = .next { s with
        now := max s.now due, sa := { s.sa with channels := s.sa.channels.setChan ch .idle } })

/-- The grant pass at an event that makes a grant possible while requests stand: at a SLOT's end in FIXED lead mode, and at
the completion of the last purge owed in VARIABLE lead mode (the pit not overflowing). With both channels IDLE they are
allotted as `PassServes` says. With channel 1 in RUN_ON, or channel 2 in RUN_ON and channel 1 IDLE, and one request
standing at a SLOT's end, that channel is GRANTED at once and the bay's PAUSED phase is RUNNING (R142, R144). Each row moves
the timebase to its time (log 2). -/
def Clause.RequestsServed : Prop :=
  ∀ (due m : Nat) (s : State), m = max s.now due → s.lm.mode = .opened ∨ s.lm.mode = .hold →
    0 < s.dt.settings.startLead → s.sa.priority.Nodup →
    (s.dt.settings.leadMode = .fixed → s.sa.cycle = .slot → s.sa.cycleEnd = some due → s.sa.purge = none →
      (s.dt.settings.reserveFloor : Int) < s.lm.vRec →
      (let u := { s.sa with cycle := .window, cycleEnd := some (m + 1000 * s.dt.settings.drawMax) }
       (s.sa.channels = ⟨.idle, .idle⟩ →
          ∃ a, exec .slotEnd s = .next { s with now := m, sa := a } ∧
            PassServes u (m + 1000 * s.dt.settings.startLead) a) ∧
       (∀ (ch : Supply) (e : Nat) (b : Bay) (p : PhaseRun) (x y : List Bay), s.channel ch = .runOn e →
          (ch = .supply1 ∨ s.channel .supply1 = .idle) → s.sa.priority = x ++ b :: y →
          s.sa.requests = (Six.all false).set b true → s.plan? b = some p → p.stage = .paused → p.requested = true →
          ∃ (t : State) (q : PhaseRun), exec .slotEnd s = .next t ∧ t = { s with now := m, sa := t.sa, pr := t.pr } ∧
            t.sa = { u with
              channels := s.sa.channels.setChan ch (.granted b (m + 1000 * s.dt.settings.grantTimeout))
              requests := Six.all false
              priority := x ++ y ++ [b] } ∧
            t.plan? b = some q ∧ q.stage = .running ∧ q.grant = some ch ∧ q.requested = false ∧
            q.recycledOpen = true ∧ q.fresh = p.fresh ∧ q.recycled = p.recycled ∧
            ∀ b', b' ≠ b → t.pr.get b' = s.pr.get b'))) ∧
    (∀ cart, s.dt.settings.leadMode = .variable → s.sa.purge = some ⟨cart, due⟩ → s.sa.debt = 1 →
      s.sa.channels = ⟨.idle, .idle⟩ →
      (s.dt.settings.reserveFloor : Int) < s.lm.vRec - min (s.dt.settings.purgeVolume : Int) s.lm.vRec →
      s.lm.vSet + min (s.dt.settings.purgeVolume : Int) s.lm.vRec ≤ s.dt.settings.pitCapacity →
      ∃ t, exec .purgeCompletion s = .next t ∧ t.now = m ∧
        PassServes { s.sa with purge := none, debt := 0, pointer := cart } (m + 1000 * s.dt.settings.startLead) t.sa ∧
        t.lm.vRec = s.lm.vRec - min (s.dt.settings.purgeVolume : Int) s.lm.vRec ∧
        t.lm.vSet = s.lm.vSet + min (s.dt.settings.purgeVolume : Int) s.lm.vRec ∧
        t.dt = s.dt ∧ t.gu = s.gu ∧ t.vq = s.vq ∧ t.bc = s.bc ∧ t.pr = s.pr ∧ t.bu = s.bu)

/-- The starts, grants and run-ons of a supply channel, and the pass that allots it. -/
def Obligations.GrantBeginsRunOnEnds : Prop := Clause.GrantBegins ∧ Clause.ChannelAllotted ∧ Clause.RequestsServed

/-- A grant timeout (the first or second of the phase) and a draw reaching its cut, with a purge due in VARIABLE lead mode
that the tank cannot yet serve (so that nothing is granted or purged at once): both valves are shut, the phase is PAUSED
without a grant, its request stands again, and the channel runs on. The timeout is counted, the cut is not. Each row moves
the timebase to its time (log 2). -/
def Obligations.GrantLost : Prop :=
  ∀ (ch : Supply) (b : Bay) (p : PhaseRun) (due : Nat) (s : State), s.plan? b = some p → p.stage = .running →
    p.grant = some ch → s.dt.settings.leadMode = .variable → 1 ≤ s.sa.debt →
    s.lm.vRec < (s.dt.settings.purgeVolume : Int) → 0 < s.dt.settings.runOn →
    (s.channel ch = .granted b due → p.timeouts ≤ 1 →
      ∃ (t : State) (q : PhaseRun), exec (.grantTimeout ch) s = .next t ∧
        t = { s with now := max s.now due, sa := t.sa, pr := t.pr } ∧
        t.channel ch = .runOn (max s.now due + 1000 * s.dt.settings.runOn) ∧ t.sa.requests.get b = true ∧
        t.sa.debt = s.sa.debt ∧ t.plan? b = some q ∧ q.stage = .paused ∧ q.grant = none ∧ q.requested = true ∧
        q.freshOpen = false ∧ q.recycledOpen = false ∧ q.timeouts = p.timeouts + 1 ∧ q.fresh = p.fresh ∧
        q.recycled = p.recycled ∧ ∀ b', b' ≠ b → t.pr.get b' = s.pr.get b') ∧
    (∀ since, s.channel ch = .drawing b since due →
      ∃ (t : State) (q : PhaseRun), exec (.drawMaxCut ch) s = .next t ∧
        t = { s with now := max s.now due, sa := t.sa, pr := t.pr } ∧
        t.channel ch = .runOn (max s.now due + 1000 * s.dt.settings.runOn) ∧ t.sa.requests.get b = true ∧
        t.sa.debt = s.sa.debt ∧ t.plan? b = some q ∧ q.stage = .paused ∧ q.grant = none ∧ q.requested = true ∧
        q.freshOpen = false ∧ q.recycledOpen = false ∧ q.timeouts = p.timeouts ∧ q.fresh = p.fresh ∧
        q.recycled = p.recycled ∧ ∀ b', b' ≠ b → t.pr.get b' = s.pr.get b')

/-- A purge starts in VARIABLE lead mode at the rise of the debt, with both channels out of STARTING, GRANTED and DRAWING,
the purge volume in the tank, the mode OPEN or HOLD and no purge in progress (no demand standing and CH1 not being
converted, so that nothing more follows): the next cartridge of the mask is purged for the purge duration and CH1 is held,
its reading invalid and its hold timer stopped. With one of the conditions failing only the debt rises (R149). The timer
acts at its time (log 2). -/
def Clause.PurgeStarts : Prop :=
  ∀ (due m : Nat) (s : State), s.sa.purgeTimer = some due → s.dt.settings.leadMode = .variable → m = max s.now due →
    (s.sa.debt < 3 → s.sa.channels.p1.busy = false → s.sa.channels.p2.busy = false →
      (s.dt.settings.purgeVolume : Int) ≤ s.lm.vRec → s.lm.mode = .opened ∨ s.lm.mode = .hold → s.sa.purge = none →
      NoDemand s → (∀ u, s.qs.converter ≠ .converting .ch1 u) →
      exec .purgeTimerExpiry s = .next { s with
        now := m
        sa := { s.sa with
          debt := s.sa.debt + 1
          purgeTimer := some (m + 1000 * s.dt.settings.spacing)
          purge := some ⟨nextCart s.dt.settings.cartMask s.sa.pointer, m + 1000 * s.dt.settings.purgeDuration⟩ }
        qs := { s.qs with
          readings := s.qs.readings.setCh .ch1 { s.qs.readings.getCh .ch1 with valid := false }
          ch1Held := true
          holdTimer := none } }) ∧
    (3 ≤ s.sa.debt ∨ s.sa.channels.p1.busy = true ∨ s.sa.channels.p2.busy = true ∨
        s.lm.vRec < (s.dt.settings.purgeVolume : Int) ∨ (s.lm.mode ≠ .opened ∧ s.lm.mode ≠ .hold) ∨ s.sa.purge ≠ none →
      exec .purgeTimerExpiry s = .next { s with now := m, sa := { s.sa with
        debt := min 3 (s.sa.debt + 1), purgeTimer := some (m + 1000 * s.dt.settings.spacing) } })

/-- The purge timer raises the debt by 1, to at most 3, and starts again with the spacing (in FIXED lead mode, where no
purge starts at it). A purge completion moves the purge volume, or V_rec where that is less, from the tank to the pit,
lowers the debt by 1, moves the pointer to the cartridge, counts the purge and holds CH1 for 30 s more (last debt, no
request standing, the pit not overflowing). Each acts at its time, and only while it runs (log 2). -/
def Clause.PurgesDone : Prop :=
  ∀ (due : Nat) (s : State),
    (s.sa.purgeTimer = some due → s.dt.settings.leadMode = .fixed →
      exec .purgeTimerExpiry s = .next { s with now := max s.now due, sa := { s.sa with
        debt := min 3 (s.sa.debt + 1), purgeTimer := some (max s.now due + 1000 * s.dt.settings.spacing) } }) ∧
    (s.sa.purgeTimer = none → exec .purgeTimerExpiry s = .next s) ∧
    (s.sa.purge = none → exec .purgeCompletion s = .next s) ∧
    (∀ cart, s.sa.purge = some ⟨cart, due⟩ → s.sa.debt = 1 → s.sa.requests = Six.all false → 0 ≤ s.lm.vRec →
      s.lm.vSet + min (s.dt.settings.purgeVolume : Int) s.lm.vRec ≤ s.dt.settings.pitCapacity →
      ∃ (t : State) (nt : PurgeNotice), exec .purgeCompletion s = .next t ∧
        t.lm.vRec = s.lm.vRec - min (s.dt.settings.purgeVolume : Int) s.lm.vRec ∧
        t.lm.vSet = s.lm.vSet + min (s.dt.settings.purgeVolume : Int) s.lm.vRec ∧
        t.lm.discharged = s.lm.discharged ∧ t.sa = { s.sa with purge := none, debt := 0, pointer := cart } ∧
        t.qs = { s.qs with holdTimer := some (max s.now due + 30000) } ∧
        t.cu = { s.cu with totals := { s.cu.totals with purges := min 4294967295 (s.cu.totals.purges + 1) } } ∧
        t.lp = (s.notify (.purge nt)).lp ∧ nt.cart = cart ∧ nt.debt = 0 ∧ t.now = max s.now due ∧ t.dt = s.dt ∧
        t.bc = s.bc ∧ t.vq = s.vq ∧ t.pr = s.pr)

/-- The purge timer, the purge start and the purge completion. -/
def Obligations.PurgesDueAndDone : Prop := Clause.PurgesDone ∧ Clause.PurgeStarts

/-- The fixed-lead cycle: a WINDOW's end, with both channels idle and no purge due, starts a SLOT of the purge duration; a
SLOT's end, with no request standing, starts a WINDOW of Draw_max. The end of the other stage has no effect (log 2). -/
def Obligations.CycleTurns : Prop :=
  ∀ (due : Nat) (s : State), s.sa.cycleEnd = some due →
    (s.sa.cycle = .window → s.sa.channels = ⟨.idle, .idle⟩ → s.sa.debt = 0 →
      exec .windowEnd s = .next { s with now := max s.now due, sa := { s.sa with
        cycle := .slot, cycleEnd := some (max s.now due + 1000 * s.dt.settings.purgeDuration) } }) ∧
    (s.sa.cycle = .slot → s.sa.requests = Six.all false →
      exec .slotEnd s = .next { s with now := max s.now due, sa := { s.sa with
        cycle := .window, cycleEnd := some (max s.now due + 1000 * s.dt.settings.drawMax) } }) ∧
    (s.sa.cycle = .slot → exec .windowEnd s = .next s) ∧ (s.sa.cycle = .window → exec .slotEnd s = .next s)

/-! ## Loop and modes -/

/-- A reclaim pulse with reclaim RUNNING (no purge due, no request standing) moves a litre from the pit to the tank; with
reclaim STOPPED it is a stray pulse. The discharge valve shuts at its time, and only while it is open (log 2). -/
def Clause.ReclaimMovesWater : Prop :=
  ∀ (due : Nat) (s : State),
    (s.lm.reclaim = true → s.sa.debt = 0 → s.sa.requests = Six.all false →
      ∃ t, exec .reclaimPulse s = .next t ∧ t = { s with lm := t.lm } ∧ t.lm.vSet = s.lm.vSet - 1 ∧
        t.lm.vRec = s.lm.vRec + 1 ∧ t.leftSide = s.leftSide ∧ t.lm.rightSide = s.lm.rightSide ∧
        t.lm.reclaim = (circulates s.lm.mode && decide ((s.dt.settings.lowMark : Int) < s.lm.vSet - 1) &&
          decide (s.lm.vRec + 1 < s.dt.settings.highMark))) ∧
    (s.lm.reclaim = false →
      exec .reclaimPulse s = .next { s with lm := { s.lm with
        strayReclaim := min 65535 (s.lm.strayReclaim + 1) } }) ∧
    (s.lm.discharge = some due →
      exec .dischargeValveClose s = .next { s with now := max s.now due, lm := { s.lm with discharge := none } }) ∧
    (s.lm.discharge = none → exec .dischargeValveClose s = .next s)

/-- A refill completing in OPEN for a REFILLING bay in service, its sensors inactive and no visit queued: the litres come
from the tank or the well, the line holds them, the line-filled flag is set and the bay is EMPTY. A bay with no refill in
flight: no effect (log 2). -/
def Clause.RefillCompletes : Prop :=
  ∀ (b : Bay) (r : Refill) (s : State),
    (s.lm.refills.get b = none → exec (.refillCompletion b) s = .next s) ∧
    (s.lm.refills.get b = some r → s.lm.mode = .opened → (s.bc.get b).state = .refilling →
      (s.bc.get b).service = .inService → (s.bc.get b).wheelStop = false → (s.bc.get b).rearBeam = false →
      s.vq.queue = [] →
      ∃ (t : State) (nt : BayStateNotice), exec (.refillCompletion b) s = .next t ∧ t.now = max s.now r.until_ ∧
        (t.bc.get b).state = .empty ∧ (t.bc.get b).lineFilled = true ∧ (t.bc.get b).lastFault = .none ∧
        t.lm.heldLine = s.lm.heldLine.set b r.volume ∧ t.lm.refills = s.lm.refills.set b none ∧
        (r.source = .recycled → t.lm.vRec = s.lm.vRec - r.volume ∧ t.lm.freshIn = s.lm.freshIn) ∧
        (r.source = .well → t.lm.vRec = s.lm.vRec ∧ t.lm.freshIn = s.lm.freshIn + r.volume) ∧
        t.lm.vSet = s.lm.vSet ∧ t.lm.mode = .opened ∧ t.lp = (s.notify (.bayState nt)).lp ∧ nt.entered = .empty ∧
        nt.left = .refilling ∧ (∀ b', b' ≠ b → t.bc.get b' = s.bc.get b') ∧ t.dt = s.dt ∧ t.vq = s.vq ∧
        t.pr = s.pr ∧ t.cu = s.cu ∧ t.sa = s.sa)

/-- RECLAIM_PULSE, DISCHARGE_VALVE_CLOSE and REFILL_COMPLETION. -/
def Obligations.ReclaimAndRefill : Prop := Clause.ReclaimMovesWater ∧ Clause.RefillCompletes

/-- The persist timer running out in HOLD with a bay WASHING and no drain pending asks for a drain: it is pending with cause
FROST, the deferral timer runs, and MODE tells so, HOLD named as entered and left (log 39). With a drain pending already
it only stops. The row moves the timebase to its timer's time (log 2). -/
def Obligations.PersistTimerAsksDrain : Prop :=
  ∀ (due : Nat) (s : State), s.lm.persist = some due →
    (s.lm.mode = .hold → s.anyWashing = true → s.lm.drainPending = none →
      ∃ nt : ModeNotice, nt.entered = .hold ∧ nt.left = .hold ∧ nt.cause = .frost ∧ nt.drainPending = true ∧
        exec .persistTimerExpiry s = .next ({ s with now := max s.now due, lm := { s.lm with
          persist := none, drainPending := some .frost,
          deferral := some (max s.now due + 1000 * s.dt.settings.deferralMax) } }.notify (.mode nt))) ∧
    (s.lm.drainPending ≠ none →
      exec .persistTimerExpiry s = .next { s with now := max s.now due, lm := { s.lm with persist := none } })

/-- The deferral timer running out on its reachable form: one bay is WASHING, its phase has delivered nothing and holds no
supply channel, every other bay is CLOSED or EMPTY and runs no phase, no visit is queued or called, the lanes are IDLE and
nothing is being posted. The phase ends CUT_MODE, the wash with MODE, the bay is FINISHING, its visit FINISHED and the next
to be posted. The mode is DRAIN, the hold origin, the pending drain and both frost timers are gone, every filled line is
drained to L with its drain valve open, an EMPTY bay is CLOSED, the purge timer and reclaim stop, and MODE gives the
litres and the one phase cut. The row moves the timebase to its timer's time, and has no effect where the timer does not run
(log 2). -/
def Obligations.DrainEntered : Prop :=
  ∀ s : State,
    (s.lm.deferral = none → exec .deferralExpiry s = .next s) ∧
    (∀ (due n : Nat) (b : Bay) (v : Visit) (p : PhaseRun), s.lm.deferral = some due → LinesTold s → LanesIdle s →
      NoCall s → (s.bc.get b).state = .washing → (s.bc.get b).held = some n → Table.look s.vq.visits n = some v →
      s.plan? b = some p → p.visit = n → p.fresh = 0 → p.recycled = 0 → s.serving b = none →
      s.cu.posting = [] → s.cu.writing = none → s.lm.vSet ≤ s.dt.settings.pitCapacity →
      (∀ c, c ≠ b → s.plan? c = none ∧ ((s.bc.get c).state = .closed ∨ (s.bc.get c).state = .empty)) →
      ∃ (t : State) (v' : Visit) (r : PhaseResult) (d : VisitDoneNotice) (nt : ModeNotice),
        exec .deferralExpiry s = .next t ∧ t.now = max s.now due ∧
        (t.bc.get b).state = .finishing ∧ (t.bc.get b).held = some n ∧ (t.bc.get b).releaseHold = false ∧
        (∀ c, c ≠ b → (t.bc.get c).state = .closed) ∧ (∀ c, t.plan? c = none) ∧
        Table.look t.vq.visits n = some v' ∧ v'.state = .finished ∧ v'.endCause = some .mode ∧
        v'.results = v.results ++ [r] ∧ r.cause = .cutMode ∧ r.number = p.number ∧ r.fresh = 0 ∧ r.recycled = 0 ∧
        r.carryOff = 0 ∧ t.vq.queue = [] ∧ t.vq.called = [] ∧
        t.cu.posting = [.visit n] ∧ t.cu.ring = s.cu.ring ∧ t.cu.reservations = s.cu.reservations ∧
        t.bu.reservations = s.bu.reservations.set b none ∧ t.qs.demands = s.qs.demands.set b none ∧
        t.sa = { s.sa with requests := s.sa.requests.set b false, purgeTimer := none } ∧
        t.lm.mode = .drain ∧ t.lm.holdOrigin = none ∧ t.lm.drainPending = none ∧ t.lm.deferral = none ∧
        t.lm.persist = none ∧ t.lm.reclaim = false ∧ t.lm.heldLine = Six.all 0 ∧
        t.lm.drained = s.lm.drained + s.vLines ∧ t.lm.carried = s.lm.carried ∧ t.lm.vSet = s.lm.vSet ∧
        t.lm.vRec = s.lm.vRec ∧
        (∀ c, (t.bc.get c).lineFilled = false ∧
          t.lm.drainValve.get c = ((s.bc.get c).lineFilled || s.lm.drainValve.get c)) ∧
        d.visit = n ∧ d.bay = v.bay ∧ d.endCause = some .mode ∧ d.results = v.results.length + 1 ∧
        nt.entered = .drain ∧ nt.left = s.lm.mode ∧ nt.cause = .deferral ∧ nt.litresDrained = some s.vLines ∧
        nt.phasesCut = some 1 ∧
        ((∀ c, c ≠ b → (s.bc.get c).state = .closed) →
          t.lp = ((s.notify (.visitDone d)).notify (.mode nt)).lp) ∧
        t.dt = s.dt ∧ t.gu = s.gu ∧ t.clock = s.clock)

/-! ## Charges and clock -/

/-- The write completion of a visit's entry, its vehicle still on the wheel stop and its release waiting for the permit:
the entry joins the ring's tail under the next sequence number, the reservation is released, the account is charged, the
visit is posted, the bay's release hold is set, and CHARGE_POSTED tells so. With no write in progress: no effect (log 2). -/
def Obligations.ChargePosted : Prop :=
  ∀ (n : Nat) (v : Visit) (b : Bay) (p : Price) (s : State),
    (s.cu.writing = none → exec .writeCompletion s = .next s) ∧
    (s.cu.writing = some (.visit p) → s.cu.posting = [.visit n] → Table.look s.vq.visits n = some v →
      v.bay = some b → v.permit = true → (s.bc.get b).wheelStop = true →
      ∃ (t : State) (e : Entry) (ve : VisitEntry), exec .writeCompletion s = .next t ∧
        t.cu.ring = ⟨s.cu.ring.headSlot, s.cu.ring.entries ++ [e]⟩ ∧ e.seq = s.cu.nextSeq ∧ e.aged = false ∧
        e.body = .visit ve ∧ ve.visit = n ∧ ve.account = v.account ∧ ve.price = p ∧ ve.day = s.clock.day ∧
        ve.time = s.clock.time ∧ t.cu.nextSeq = s.cu.nextSeq + 1 ∧
        t.cu.reservations = s.cu.reservations - 1 ∧ t.cu.posting = [] ∧ t.cu.writing = none ∧
        t.cu.totals.visits = min 4294967295 (s.cu.totals.visits + 1) ∧
        t.cu.totals.net = min 4294967295 (s.cu.totals.net + p.net) ∧
        (∀ m a, v.account = some m → Table.look s.dt.accounts m = some a →
          Table.look t.dt.accounts m = some { a with
            periodVisits := min 65535 (a.periodVisits + 1), balance := min 4294967295 (a.balance + p.net)
            balSat := a.balSat || decide (4294967295 < a.balance + p.net) }) ∧
        Table.look t.vq.visits n = some { v with posted := some s.cu.nextSeq } ∧
        (t.bc.get b).state = (s.bc.get b).state ∧ (t.bc.get b).releaseHold = true ∧
        t.lp = (s.notify (.chargePosted (.visit s.cu.nextSeq n (some b) v.account p.net .permit
          (s.cu.ring.entries.length + 1 + (s.cu.reservations - 1))))).lp ∧
        t.lm = s.lm ∧ t.pr = s.pr ∧ t.gu = s.gu)

/-- The price (R181 to R183). Base is the programme's price by the class factor, round half up; the axle charge counts the
axles above the class's, the water charge every started 100 L of fresh above the programme's included figure; the credit
is the whole price for a wash with no result, and else the sum over the results of the figure of R182's table; the
discount is that of the highest tier whose threshold is at or below the account's period visits, of the subtotal, round half
up, and none for a casual visit; net is the subtotal, never below 0, less the discount. -/
def Obligations.PriceComputed : Prop :=
  ∀ (s : State) (v : Visit),
    (s.price v).base = (2 * ((s.tariffOf v.account).prices.get v.programme * (s.dt.classes.getCls v.cls).factor) + 100) /
      200 ∧
    (∀ n, v.axles = some n →
      (s.price v).axlesUsed = n ∧
      (s.price v).axleCharge = (s.tariffOf v.account).axleRate * (n - (s.dt.classes.getCls v.cls).axles)) ∧
    (v.axles = none → (s.price v).axleCharge = 0 ∧ (s.price v).axlesUsed = (s.dt.classes.getCls v.cls).axles) ∧
    (s.price v).fresh = (v.results.map (·.fresh)).sum ∧ (s.price v).recycled = (v.results.map (·.recycled)).sum ∧
    (∀ included, (∀ p, s.dt.programmes.get v.programme = some p → included = p.includedFresh) →
      (s.dt.programmes.get v.programme = none → included = 0) →
      (s.price v).waterCharge = (s.tariffOf v.account).freshRate * (((s.price v).fresh - included + 99) / 100)) ∧
    ((s.price v).fresh = 0 → (s.price v).waterCharge = 0) ∧
    (v.results = [] →
      (s.price v).credit = (s.price v).base + (s.price v).axleCharge + (s.price v).waterCharge ∧ (s.price v).net = 0) ∧
    (v.results ≠ [] → ∃ credit : PhaseResult → Nat, (s.price v).credit = (v.results.map credit).sum ∧
      ∀ r : PhaseResult,
        (r.kind = .wet → r.cause = .skipped → credit r = (s.price v).base * r.weight / 100) ∧
        (r.kind = .wet → r.cause ≠ .skipped → r.fresh + r.recycled < r.volume →
          credit r = (s.price v).base * r.weight * (r.volume - (r.fresh + r.recycled)) / (100 * r.volume)) ∧
        (r.kind = .wet → r.cause ≠ .skipped → r.volume ≤ r.fresh + r.recycled → credit r = 0) ∧
        (r.kind = .dry → r.running < 10 * r.timeLimit →
          credit r = (s.price v).base * r.weight * (10 * r.timeLimit - r.running) / (100 * 10 * r.timeLimit)) ∧
        (r.kind = .dry → 10 * r.timeLimit ≤ r.running → credit r = 0)) ∧
    (∀ n a tr, v.account = some n → Table.look s.dt.accounts n = some a → s.dt.tariffs.getTrf a.tariff = some tr →
      ∃ d, (s.price v).discount =
          (2 * (((s.price v).base + (s.price v).axleCharge + (s.price v).waterCharge - (s.price v).credit) * d) + 100) / 200 ∧
        (tr.tier3.threshold ≤ a.periodVisits → d = tr.tier3.discount) ∧
        (a.periodVisits < tr.tier3.threshold → tr.tier2.threshold ≤ a.periodVisits → d = tr.tier2.discount) ∧
        (a.periodVisits < tr.tier3.threshold → a.periodVisits < tr.tier2.threshold →
          tr.tier1.threshold ≤ a.periodVisits → d = tr.tier1.discount) ∧
        (a.periodVisits < tr.tier3.threshold → a.periodVisits < tr.tier2.threshold →
          a.periodVisits < tr.tier1.threshold → d = 0)) ∧
    (v.account = none → (s.price v).discount = 0) ∧
    (∀ n a tr, v.account = some n → Table.look s.dt.accounts n = some a → s.dt.tariffs.getTrf a.tariff = some tr →
      s.tariffOf v.account = tr) ∧
    (∀ tr, v.account = none → s.dt.tariffs.getTrf .tariff0 = some tr → s.tariffOf v.account = tr) ∧
    (s.price v).net =
      (s.price v).base + (s.price v).axleCharge + (s.price v).waterCharge - (s.price v).credit - (s.price v).discount

/-- An entry ageing: at its time its aged mark is set and COLLECT_OVERDUE counts it; a number that no unaged entry carries:
no effect (log 2). -/
def Clause.EntryAges : Prop :=
  ∀ (q : Seq) (e : Entry) (s : State),
    ((∀ x ∈ s.cu.ring.entries, x.seq = q → x.aged = true) → exec (.ageing q) s = .next s) ∧
    (s.cu.ring.entries.find? (fun x => decide (x.seq = q) && !x.aged) = some e →
      ∃ (t : State) (nt : OverdueNotice), exec (.ageing q) s = .next t ∧
        t.now = max s.now (e.heldSince + (3600000 * s.dt.settings.chargeHold - e.heldMs)) ∧
        t.cu.ring.entries = s.cu.ring.entries.map (fun x => if x.seq = q then { x with aged := true } else x) ∧
        t.cu.ring.headSlot = s.cu.ring.headSlot ∧ t.cu.nextSeq = s.cu.nextSeq ∧ t.cu.reservations = s.cu.reservations ∧
        t.lp = (s.notify (.collectOverdue nt)).lp ∧ nt.seq = q ∧ t.dt = s.dt ∧ t.vq = s.vq ∧ t.bc = s.bc ∧ t.lm = s.lm)

/-- SET_CLOCK: a time above 86,399, and a day 2..32,767 ahead, give RANGE; the same day and an earlier day are set with no
midnight; the next day makes one midnight, which sets used today to 0 and closes the charge day (its summary, its place
and DAY_CLOSED before the reply, log 6), and is then set. -/
def Clause.ClockSet : Prop :=
  ∀ (tag : Byte) (f : SetClock) (s : State), LinkReady s → f.day ≤ 65535 → s.clock.day ≤ 65535 →
    (86399 < f.time ∨ (2 ≤ (f.day + 65536 - s.clock.day) % 65536 ∧ (f.day + 65536 - s.clock.day) % 65536 ≤ 32767) →
      exec (.setClock tag (.fields f)) s = .next (s.answer ⟨0x91, tag, .range, .none⟩)) ∧
    (f.time ≤ 86399 → f.day = s.clock.day ∨ 32768 ≤ (f.day + 65536 - s.clock.day) % 65536 →
      exec (.setClock tag (.fields f)) s = .next ({ s with clock := ⟨f.day, f.time, s.now⟩ }.answer
        ⟨0x91, tag, .ok, .clock ⟨s.clock.day, s.clock.time, f.day, f.time, false⟩⟩)) ∧
    (f.time ≤ 86399 → (f.day + 65536 - s.clock.day) % 65536 = 1 →
      ∃ (t : State) (nt : DayClosedNotice), exec (.setClock tag (.fields f)) s = .next t ∧
        t.clock = ⟨f.day, f.time, s.now⟩ ∧ t.bu = { s.bu with usedToday := 0 } ∧ DayClosed s t nt ∧
        t.cu.firstDay = f.day ∧ t.dt = s.dt ∧ t.gu = s.gu ∧ t.vq.queue = s.vq.queue ∧ t.bc = s.bc ∧ t.pr = s.pr ∧
        t.qs = s.qs ∧ t.sa = s.sa ∧ t.lm = s.lm ∧ t.now = s.now ∧
        t.lp = ((s.notify (.dayClosed nt)).answer ⟨0x91, tag, .ok,
          .clock ⟨s.clock.day, s.clock.time, f.day, f.time, true⟩⟩).lp)

/-- A second of the clock: the time of day rises by 1; past 86,399 it becomes 0, the day rises by 1 with 65,535 followed by
0, used today becomes 0 and the charge day closes, with its summary, its place and DAY_CLOSED. The row moves the timebase to
its second (log 2). -/
def Clause.ClockAdvances : Prop :=
  ∀ s : State,
    (s.clock.time < 86399 →
      exec .clockSecond s = .next { s with
        now := max s.now (s.clock.secondBase + 1000)
        clock := ⟨s.clock.day, s.clock.time + 1, s.clock.secondBase + 1000⟩ }) ∧
    (86399 ≤ s.clock.time →
      ∃ (t : State) (nt : DayClosedNotice), exec .clockSecond s = .next t ∧
        t.clock = ⟨if s.clock.day < 65535 then s.clock.day + 1 else 0, 0, s.clock.secondBase + 1000⟩ ∧
        t.bu = { s.bu with usedToday := 0 } ∧ DayClosed s t nt ∧
        t.cu.firstDay = (if s.clock.day < 65535 then s.clock.day + 1 else 0) ∧ t.lp = (s.notify (.dayClosed nt)).lp ∧
        t.now = max s.now (s.clock.secondBase + 1000) ∧
        t.dt = s.dt ∧ t.gu = s.gu ∧ t.bc = s.bc ∧ t.pr = s.pr ∧ t.qs = s.qs ∧ t.sa = s.sa ∧ t.lm = s.lm ∧
        t.vq.queue = s.vq.queue)

/-- AGEING, SET_CLOCK and CLOCK_SECOND. -/
def Obligations.AgeingAndClock : Prop := Clause.EntryAges ∧ Clause.ClockSet ∧ Clause.ClockAdvances
end

