-- ==== Sys2Proof/Laws/Decode.lean ====
section
/-!
SUPPORT. What the decoder reads fits the widths it is read from: every command decoded from a body of at most 240 bytes
is well formed.
-/

namespace Sys2Proof

theorem unsignedOf_append (l : List Byte) (b : Byte) : unsignedOf (l ++ [b]) = 256 * unsignedOf l + b.toNat := by
  simp [unsignedOf]

theorem unsignedOf_lt (l : List Byte) : unsignedOf l < 256 ^ l.length := by
  induction l using List.reverseRecOn with
  | nil => simp [unsignedOf]
  | append_singleton l b ih =>
    rw [unsignedOf_append, List.length_append, List.length_singleton, pow_succ]
    have hb := b.isLt
    omega

theorem fieldAt_lt (l : List Byte) (off k : Nat) : fieldAt l off k < 256 ^ k := by
  refine lt_of_lt_of_le (unsignedOf_lt _) (Nat.pow_le_pow_right (by decide) ?_)
  simp

@[simp] theorem fits_fieldAt (l : List Byte) (off k : Nat) : fits k (fieldAt l off k) = true := by
  simpa [fits] using fieldAt_lt l off k

@[simp] theorem fitsInt_signedAt (l : List Byte) (off k : Nat) : fitsInt k (signedAt l off k) = true := by
  have h := fieldAt_lt l off k
  have h' : ((fieldAt l off k : Nat) : Int) < ((256 ^ k : Nat) : Int) := by exact_mod_cast h
  unfold fitsInt signedAt
  simp only [Bool.and_eq_true, decide_eq_true_eq]
  split
  · have h2 : (2 * (fieldAt l off k : Nat) : Int) < ((256 ^ k : Nat) : Int) := by exact_mod_cast ‹_›
    constructor <;> omega
  · have h2 : ((256 ^ k : Nat) : Int) ≤ (2 * (fieldAt l off k : Nat) : Int) := by
      have := Nat.le_of_not_lt ‹_›
      exact_mod_cast this
    constructor <;> omega

theorem ofLength_wf {α : Type} (k : Nat) (l : List Byte) (x : α) (f : α → Bool) (h : f x = true) :
    (ofLength k l x).wf f = true := by
  unfold ofLength
  split <;> simp [Body.wf, h]

@[simp] theorem phaseOf_wf (l : List Byte) : (phaseOf l).wf = true := by
  simp [phaseOf, PhaseBody.wf]

@[simp] theorem phasesOf_wf (n : Nat) (l : List Byte) : (phasesOf n l).all (·.wf) = true := by
  induction n generalizing l with
  | zero => rfl
  | succ n ih => simpa [phasesOf] using ih (l.drop 25)

@[simp] theorem phasesOf_length (n : Nat) (l : List Byte) : (phasesOf n l).length = n := by
  induction n generalizing l with
  | zero => rfl
  | succ n ih => simp [phasesOf, ih]

@[simp] theorem tagsOf_wf (n : Nat) (l : List Byte) : (tagsOf n l).all (fits 5) = true := by
  induction n generalizing l with
  | zero => rfl
  | succ n ih => simpa [tagsOf] using ih (l.drop 5)

@[simp] theorem tagsOf_length (n : Nat) (l : List Byte) : (tagsOf n l).length = n := by
  induction n generalizing l with
  | zero => rfl
  | succ n ih => simp [tagsOf, ih]

@[simp] theorem setDepotOf_wf (l : List Byte) : (setDepotOf l).wf = true := by
  simp [setDepotOf, SetDepot.wf, Six.toList, Eight.toList]

@[simp] theorem putTariffOf_wf (l : List Byte) : (putTariffOf l).wf = true := by
  simp [putTariffOf, PutTariff.wf, Twelve.toList, Tier.wf, tierAt]

theorem putProgrammeOf_wf (l : List Byte) (h : l.length ≤ 240) : (putProgrammeOf l).wf (·.wf) = true := by
  unfold putProgrammeOf
  split
  · unfold ofLength
    split
    · have : fieldAt l 3 1 ≤ 9 := by omega
      simp only [Body.wf, PutProgramme.wf, phasesOf_wf, phasesOf_length, fits_fieldAt, this, decide_true, Bool.and_self]
    · rfl
  · rfl

theorem assignBayOf_wf (l : List Byte) (h : l.length ≤ 240) : (assignBayOf l).wf (·.wf) = true := by
  unfold assignBayOf
  split
  · unfold ofLength
    split
    · have : fieldAt l 5 1 ≤ 46 := by omega
      simp only [Body.wf, AssignBay.wf, tagsOf_wf, tagsOf_length, fits_fieldAt, this, decide_true, Bool.and_self]
    · rfl
  · rfl

/-- A kind outside the list of request kinds is decoded as unknown. -/
theorem decodeFrame_known {kind tag : Byte} {l : List Byte} {t k : Byte} (h : decodeFrame kind tag l = .unknownKind t k) :
    requestKinds.contains k.toNat = false := by
  unfold decodeFrame at h
  split at h
  all_goals first | (exfalso; cases h; done) | skip
  obtain ⟨rfl, rfl⟩ : tag = t ∧ kind = k := by
    injection h with h1 h2
    exact ⟨h1, h2⟩
  simp only [requestKinds, List.cons_append, List.nil_append, List.contains_eq_mem, decide_eq_false_iff_not,
    List.mem_cons, List.not_mem_nil, or_false, not_or]
  refine ⟨?_, ?_, ?_, ?_, ?_, ?_, ?_, ?_, ?_, ?_, ?_, ?_, ?_, ?_, ?_, ?_, ?_, ?_, ?_, ?_, ?_, ?_, ?_, ?_, ?_, ?_, ?_, ?_,
    ?_, ?_, ?_, ?_⟩ <;> assumption

/-- Whatever the kind, tag and bytes, the decoded command is one that can arise. -/
theorem decodeFrame_wf (kind tag : Byte) (l : List Byte) (h : l.length ≤ 240) : (decodeFrame kind tag l).wf = true := by
  generalize hd : decodeFrame kind tag l = i
  have hu : ∀ t k, i = .unknownKind t k → requestKinds.contains k.toNat = false := by
    rintro t k rfl
    exact decodeFrame_known hd
  unfold decodeFrame at hd
  split at hd <;> subst hd
  case h_33 => simp only [Instr.wf, hu tag kind rfl, Bool.not_false]
  all_goals first
    | rfl
    | exact putProgrammeOf_wf l h
    | exact assignBayOf_wf l h
    | (refine ofLength_wf _ _ _ _ ?_
       simp [putClassOf, PutClass.wf, putAccountOf, PutAccount.wf, putTagOf, PutTag.wf, SetClock.wf, BayService.wf,
         SettleAccount.wf, GetVisit.wf])

end Sys2Proof
end

