-- ==== Sys2Proof/Laws/State.lean ====
section
/-!
SUPPORT. Each setter of the state, field by field: what it writes, and that it leaves every other field.
-/

namespace Sys2Proof.Machine

open Sys2Proof

/-! ## Rows: reading the place written, and another place -/

@[simp] theorem Pair.get_set_same {α : Type} (v : Pair α) (i : Lane) (x : α) : (v.set i x).get i = x := by
  cases i <;> rfl

theorem Pair.get_set_ne {α : Type} (v : Pair α) (i j : Lane) (x : α) (h : j ≠ i) : (v.set i x).get j = v.get j := by
  cases i <;> cases j <;> first | rfl | exact absurd rfl h

@[simp] theorem Pair.chan_setChan_same {α : Type} (v : Pair α) (i : Supply) (x : α) : (v.setChan i x).chan i = x := by
  cases i <;> rfl

theorem Pair.chan_setChan_ne {α : Type} (v : Pair α) (i j : Supply) (x : α) (h : j ≠ i) : (v.setChan i x).chan j = v.chan j := by
  cases i <;> cases j <;> first | rfl | exact absurd rfl h

@[simp] theorem Six.get_set_same {α : Type} (v : Six α) (i : Bay) (x : α) : (v.set i x).get i = x := by
  cases i <;> rfl

theorem Six.get_set_ne {α : Type} (v : Six α) (i j : Bay) (x : α) (h : j ≠ i) : (v.set i x).get j = v.get j := by
  cases i <;> cases j <;> first | rfl | exact absurd rfl h

@[simp] theorem Eight.getCh_setCh_same {α : Type} (v : Eight α) (i : Channel) (x : α) : (v.setCh i x).getCh i = x := by
  cases i <;> rfl

theorem Eight.getCh_setCh_ne {α : Type} (v : Eight α) (i j : Channel) (x : α) (h : j ≠ i) : (v.setCh i x).getCh j = v.getCh j := by
  cases i <;> cases j <;> first | rfl | exact absurd rfl h

@[simp] theorem Eight.getCls_setCls_same {α : Type} (v : Eight α) (i : Cls) (x : α) : (v.setCls i x).getCls i = x := by
  cases i <;> rfl

theorem Eight.getCls_setCls_ne {α : Type} (v : Eight α) (i j : Cls) (x : α) (h : j ≠ i) : (v.setCls i x).getCls j = v.getCls j := by
  cases i <;> cases j <;> first | rfl | exact absurd rfl h

@[simp] theorem Eight.getTrf_setTrf_same {α : Type} (v : Eight α) (i : Trf) (x : α) : (v.setTrf i x).getTrf i = x := by
  cases i <;> rfl

theorem Eight.getTrf_setTrf_ne {α : Type} (v : Eight α) (i j : Trf) (x : α) (h : j ≠ i) : (v.setTrf i x).getTrf j = v.getTrf j := by
  cases i <;> cases j <;> first | rfl | exact absurd rfl h

@[simp] theorem Twelve.get_set_same {α : Type} (v : Twelve α) (i : Prog) (x : α) : (v.set i x).get i = x := by
  cases i <;> rfl

theorem Twelve.get_set_ne {α : Type} (v : Twelve α) (i j : Prog) (x : α) (h : j ≠ i) : (v.set i x).get j = v.get j := by
  cases i <;> cases j <;> first | rfl | exact absurd rfl h

@[simp] theorem Six.get_all {α : Type} (x : α) (i : Bay) : (Six.all x).get i = x := by
  cases i <;> rfl

@[simp] theorem Eight.getCh_all {α : Type} (x : α) (i : Channel) : (Eight.all x).getCh i = x := by
  cases i <;> rfl

@[simp] theorem Twelve.get_all {α : Type} (x : α) (i : Prog) : (Twelve.all x).get i = x := by
  cases i <;> rfl

/-! ## Fields of the state after each setter -/

@[simp] theorem State.modLink_pending (s : State) (f : Link → Link) : (s.modLink f).pending = s.pending := rfl
@[simp] theorem State.modLink_freshCounter (s : State) (f : Link → Link) : (s.modLink f).freshCounter = s.freshCounter := rfl
@[simp] theorem State.modLink_now (s : State) (f : Link → Link) : (s.modLink f).now = s.now := rfl
@[simp] theorem State.modLink_clock (s : State) (f : Link → Link) : (s.modLink f).clock = s.clock := rfl
@[simp] theorem State.modLink_lp (s : State) (f : Link → Link) : (s.modLink f).lp = f s.lp := rfl
@[simp] theorem State.modLink_dt (s : State) (f : Link → Link) : (s.modLink f).dt = s.dt := rfl
@[simp] theorem State.modLink_gu (s : State) (f : Link → Link) : (s.modLink f).gu = s.gu := rfl
@[simp] theorem State.modLink_vq (s : State) (f : Link → Link) : (s.modLink f).vq = s.vq := rfl
@[simp] theorem State.modLink_bc (s : State) (f : Link → Link) : (s.modLink f).bc = s.bc := rfl
@[simp] theorem State.modLink_pr (s : State) (f : Link → Link) : (s.modLink f).pr = s.pr := rfl
@[simp] theorem State.modLink_qs (s : State) (f : Link → Link) : (s.modLink f).qs = s.qs := rfl
@[simp] theorem State.modLink_bu (s : State) (f : Link → Link) : (s.modLink f).bu = s.bu := rfl
@[simp] theorem State.modLink_sa (s : State) (f : Link → Link) : (s.modLink f).sa = s.sa := rfl
@[simp] theorem State.modLink_lm (s : State) (f : Link → Link) : (s.modLink f).lm = s.lm := rfl
@[simp] theorem State.modLink_cu (s : State) (f : Link → Link) : (s.modLink f).cu = s.cu := rfl

@[simp] theorem State.modLane_pending (s : State) (l : Lane) (f : LaneRecord → LaneRecord) : (s.modLane l f).pending = s.pending := rfl
@[simp] theorem State.modLane_freshCounter (s : State) (l : Lane) (f : LaneRecord → LaneRecord) : (s.modLane l f).freshCounter = s.freshCounter := rfl
@[simp] theorem State.modLane_now (s : State) (l : Lane) (f : LaneRecord → LaneRecord) : (s.modLane l f).now = s.now := rfl
@[simp] theorem State.modLane_clock (s : State) (l : Lane) (f : LaneRecord → LaneRecord) : (s.modLane l f).clock = s.clock := rfl
@[simp] theorem State.modLane_lp (s : State) (l : Lane) (f : LaneRecord → LaneRecord) : (s.modLane l f).lp = s.lp := rfl
@[simp] theorem State.modLane_dt (s : State) (l : Lane) (f : LaneRecord → LaneRecord) : (s.modLane l f).dt = s.dt := rfl
@[simp] theorem State.modLane_gu (s : State) (l : Lane) (f : LaneRecord → LaneRecord) : (s.modLane l f).gu = s.gu.set l (f (s.gu.get l)) := rfl
@[simp] theorem State.modLane_vq (s : State) (l : Lane) (f : LaneRecord → LaneRecord) : (s.modLane l f).vq = s.vq := rfl
@[simp] theorem State.modLane_bc (s : State) (l : Lane) (f : LaneRecord → LaneRecord) : (s.modLane l f).bc = s.bc := rfl
@[simp] theorem State.modLane_pr (s : State) (l : Lane) (f : LaneRecord → LaneRecord) : (s.modLane l f).pr = s.pr := rfl
@[simp] theorem State.modLane_qs (s : State) (l : Lane) (f : LaneRecord → LaneRecord) : (s.modLane l f).qs = s.qs := rfl
@[simp] theorem State.modLane_bu (s : State) (l : Lane) (f : LaneRecord → LaneRecord) : (s.modLane l f).bu = s.bu := rfl
@[simp] theorem State.modLane_sa (s : State) (l : Lane) (f : LaneRecord → LaneRecord) : (s.modLane l f).sa = s.sa := rfl
@[simp] theorem State.modLane_lm (s : State) (l : Lane) (f : LaneRecord → LaneRecord) : (s.modLane l f).lm = s.lm := rfl
@[simp] theorem State.modLane_cu (s : State) (l : Lane) (f : LaneRecord → LaneRecord) : (s.modLane l f).cu = s.cu := rfl

@[simp] theorem State.modBay_pending (s : State) (b : Bay) (f : BayRecord → BayRecord) : (s.modBay b f).pending = s.pending := rfl
@[simp] theorem State.modBay_freshCounter (s : State) (b : Bay) (f : BayRecord → BayRecord) : (s.modBay b f).freshCounter = s.freshCounter := rfl
@[simp] theorem State.modBay_now (s : State) (b : Bay) (f : BayRecord → BayRecord) : (s.modBay b f).now = s.now := rfl
@[simp] theorem State.modBay_clock (s : State) (b : Bay) (f : BayRecord → BayRecord) : (s.modBay b f).clock = s.clock := rfl
@[simp] theorem State.modBay_lp (s : State) (b : Bay) (f : BayRecord → BayRecord) : (s.modBay b f).lp = s.lp := rfl
@[simp] theorem State.modBay_dt (s : State) (b : Bay) (f : BayRecord → BayRecord) : (s.modBay b f).dt = s.dt := rfl
@[simp] theorem State.modBay_gu (s : State) (b : Bay) (f : BayRecord → BayRecord) : (s.modBay b f).gu = s.gu := rfl
@[simp] theorem State.modBay_vq (s : State) (b : Bay) (f : BayRecord → BayRecord) : (s.modBay b f).vq = s.vq := rfl
@[simp] theorem State.modBay_bc (s : State) (b : Bay) (f : BayRecord → BayRecord) : (s.modBay b f).bc = s.bc.set b (f (s.bc.get b)) := rfl
@[simp] theorem State.modBay_pr (s : State) (b : Bay) (f : BayRecord → BayRecord) : (s.modBay b f).pr = s.pr := rfl
@[simp] theorem State.modBay_qs (s : State) (b : Bay) (f : BayRecord → BayRecord) : (s.modBay b f).qs = s.qs := rfl
@[simp] theorem State.modBay_bu (s : State) (b : Bay) (f : BayRecord → BayRecord) : (s.modBay b f).bu = s.bu := rfl
@[simp] theorem State.modBay_sa (s : State) (b : Bay) (f : BayRecord → BayRecord) : (s.modBay b f).sa = s.sa := rfl
@[simp] theorem State.modBay_lm (s : State) (b : Bay) (f : BayRecord → BayRecord) : (s.modBay b f).lm = s.lm := rfl
@[simp] theorem State.modBay_cu (s : State) (b : Bay) (f : BayRecord → BayRecord) : (s.modBay b f).cu = s.cu := rfl

@[simp] theorem State.modRunner_pending (s : State) (b : Bay) (f : BayRunner → BayRunner) : (s.modRunner b f).pending = s.pending := rfl
@[simp] theorem State.modRunner_freshCounter (s : State) (b : Bay) (f : BayRunner → BayRunner) : (s.modRunner b f).freshCounter = s.freshCounter := rfl
@[simp] theorem State.modRunner_now (s : State) (b : Bay) (f : BayRunner → BayRunner) : (s.modRunner b f).now = s.now := rfl
@[simp] theorem State.modRunner_clock (s : State) (b : Bay) (f : BayRunner → BayRunner) : (s.modRunner b f).clock = s.clock := rfl
@[simp] theorem State.modRunner_lp (s : State) (b : Bay) (f : BayRunner → BayRunner) : (s.modRunner b f).lp = s.lp := rfl
@[simp] theorem State.modRunner_dt (s : State) (b : Bay) (f : BayRunner → BayRunner) : (s.modRunner b f).dt = s.dt := rfl
@[simp] theorem State.modRunner_gu (s : State) (b : Bay) (f : BayRunner → BayRunner) : (s.modRunner b f).gu = s.gu := rfl
@[simp] theorem State.modRunner_vq (s : State) (b : Bay) (f : BayRunner → BayRunner) : (s.modRunner b f).vq = s.vq := rfl
@[simp] theorem State.modRunner_bc (s : State) (b : Bay) (f : BayRunner → BayRunner) : (s.modRunner b f).bc = s.bc := rfl
@[simp] theorem State.modRunner_pr (s : State) (b : Bay) (f : BayRunner → BayRunner) : (s.modRunner b f).pr = s.pr.set b (f (s.pr.get b)) := rfl
@[simp] theorem State.modRunner_qs (s : State) (b : Bay) (f : BayRunner → BayRunner) : (s.modRunner b f).qs = s.qs := rfl
@[simp] theorem State.modRunner_bu (s : State) (b : Bay) (f : BayRunner → BayRunner) : (s.modRunner b f).bu = s.bu := rfl
@[simp] theorem State.modRunner_sa (s : State) (b : Bay) (f : BayRunner → BayRunner) : (s.modRunner b f).sa = s.sa := rfl
@[simp] theorem State.modRunner_lm (s : State) (b : Bay) (f : BayRunner → BayRunner) : (s.modRunner b f).lm = s.lm := rfl
@[simp] theorem State.modRunner_cu (s : State) (b : Bay) (f : BayRunner → BayRunner) : (s.modRunner b f).cu = s.cu := rfl

@[simp] theorem State.modPlan_pending (s : State) (b : Bay) (f : PhaseRun → PhaseRun) : (s.modPlan b f).pending = s.pending := rfl
@[simp] theorem State.modPlan_freshCounter (s : State) (b : Bay) (f : PhaseRun → PhaseRun) : (s.modPlan b f).freshCounter = s.freshCounter := rfl
@[simp] theorem State.modPlan_now (s : State) (b : Bay) (f : PhaseRun → PhaseRun) : (s.modPlan b f).now = s.now := rfl
@[simp] theorem State.modPlan_clock (s : State) (b : Bay) (f : PhaseRun → PhaseRun) : (s.modPlan b f).clock = s.clock := rfl
@[simp] theorem State.modPlan_lp (s : State) (b : Bay) (f : PhaseRun → PhaseRun) : (s.modPlan b f).lp = s.lp := rfl
@[simp] theorem State.modPlan_dt (s : State) (b : Bay) (f : PhaseRun → PhaseRun) : (s.modPlan b f).dt = s.dt := rfl
@[simp] theorem State.modPlan_gu (s : State) (b : Bay) (f : PhaseRun → PhaseRun) : (s.modPlan b f).gu = s.gu := rfl
@[simp] theorem State.modPlan_vq (s : State) (b : Bay) (f : PhaseRun → PhaseRun) : (s.modPlan b f).vq = s.vq := rfl
@[simp] theorem State.modPlan_bc (s : State) (b : Bay) (f : PhaseRun → PhaseRun) : (s.modPlan b f).bc = s.bc := rfl
@[simp] theorem State.modPlan_pr (s : State) (b : Bay) (f : PhaseRun → PhaseRun) : (s.modPlan b f).pr = s.pr.set b ⟨(s.pr.get b).plan.map f, (s.pr.get b).stray⟩ := rfl
@[simp] theorem State.modPlan_qs (s : State) (b : Bay) (f : PhaseRun → PhaseRun) : (s.modPlan b f).qs = s.qs := rfl
@[simp] theorem State.modPlan_bu (s : State) (b : Bay) (f : PhaseRun → PhaseRun) : (s.modPlan b f).bu = s.bu := rfl
@[simp] theorem State.modPlan_sa (s : State) (b : Bay) (f : PhaseRun → PhaseRun) : (s.modPlan b f).sa = s.sa := rfl
@[simp] theorem State.modPlan_lm (s : State) (b : Bay) (f : PhaseRun → PhaseRun) : (s.modPlan b f).lm = s.lm := rfl
@[simp] theorem State.modPlan_cu (s : State) (b : Bay) (f : PhaseRun → PhaseRun) : (s.modPlan b f).cu = s.cu := rfl

@[simp] theorem State.modVisits_pending (s : State) (f : Table Visit → Table Visit) : (s.modVisits f).pending = s.pending := rfl
@[simp] theorem State.modVisits_freshCounter (s : State) (f : Table Visit → Table Visit) : (s.modVisits f).freshCounter = s.freshCounter := rfl
@[simp] theorem State.modVisits_now (s : State) (f : Table Visit → Table Visit) : (s.modVisits f).now = s.now := rfl
@[simp] theorem State.modVisits_clock (s : State) (f : Table Visit → Table Visit) : (s.modVisits f).clock = s.clock := rfl
@[simp] theorem State.modVisits_lp (s : State) (f : Table Visit → Table Visit) : (s.modVisits f).lp = s.lp := rfl
@[simp] theorem State.modVisits_dt (s : State) (f : Table Visit → Table Visit) : (s.modVisits f).dt = s.dt := rfl
@[simp] theorem State.modVisits_gu (s : State) (f : Table Visit → Table Visit) : (s.modVisits f).gu = s.gu := rfl
@[simp] theorem State.modVisits_vq (s : State) (f : Table Visit → Table Visit) : (s.modVisits f).vq = { s.vq with visits := f s.vq.visits } := rfl
@[simp] theorem State.modVisits_bc (s : State) (f : Table Visit → Table Visit) : (s.modVisits f).bc = s.bc := rfl
@[simp] theorem State.modVisits_pr (s : State) (f : Table Visit → Table Visit) : (s.modVisits f).pr = s.pr := rfl
@[simp] theorem State.modVisits_qs (s : State) (f : Table Visit → Table Visit) : (s.modVisits f).qs = s.qs := rfl
@[simp] theorem State.modVisits_bu (s : State) (f : Table Visit → Table Visit) : (s.modVisits f).bu = s.bu := rfl
@[simp] theorem State.modVisits_sa (s : State) (f : Table Visit → Table Visit) : (s.modVisits f).sa = s.sa := rfl
@[simp] theorem State.modVisits_lm (s : State) (f : Table Visit → Table Visit) : (s.modVisits f).lm = s.lm := rfl
@[simp] theorem State.modVisits_cu (s : State) (f : Table Visit → Table Visit) : (s.modVisits f).cu = s.cu := rfl

@[simp] theorem State.modVisit_pending (s : State) (n : Nat) (f : Visit → Visit) : (s.modVisit n f).pending = s.pending := rfl
@[simp] theorem State.modVisit_freshCounter (s : State) (n : Nat) (f : Visit → Visit) : (s.modVisit n f).freshCounter = s.freshCounter := rfl
@[simp] theorem State.modVisit_now (s : State) (n : Nat) (f : Visit → Visit) : (s.modVisit n f).now = s.now := rfl
@[simp] theorem State.modVisit_clock (s : State) (n : Nat) (f : Visit → Visit) : (s.modVisit n f).clock = s.clock := rfl
@[simp] theorem State.modVisit_lp (s : State) (n : Nat) (f : Visit → Visit) : (s.modVisit n f).lp = s.lp := rfl
@[simp] theorem State.modVisit_dt (s : State) (n : Nat) (f : Visit → Visit) : (s.modVisit n f).dt = s.dt := rfl
@[simp] theorem State.modVisit_gu (s : State) (n : Nat) (f : Visit → Visit) : (s.modVisit n f).gu = s.gu := rfl
@[simp] theorem State.modVisit_vq (s : State) (n : Nat) (f : Visit → Visit) : (s.modVisit n f).vq = { s.vq with visits := Table.upd s.vq.visits n f } := rfl
@[simp] theorem State.modVisit_bc (s : State) (n : Nat) (f : Visit → Visit) : (s.modVisit n f).bc = s.bc := rfl
@[simp] theorem State.modVisit_pr (s : State) (n : Nat) (f : Visit → Visit) : (s.modVisit n f).pr = s.pr := rfl
@[simp] theorem State.modVisit_qs (s : State) (n : Nat) (f : Visit → Visit) : (s.modVisit n f).qs = s.qs := rfl
@[simp] theorem State.modVisit_bu (s : State) (n : Nat) (f : Visit → Visit) : (s.modVisit n f).bu = s.bu := rfl
@[simp] theorem State.modVisit_sa (s : State) (n : Nat) (f : Visit → Visit) : (s.modVisit n f).sa = s.sa := rfl
@[simp] theorem State.modVisit_lm (s : State) (n : Nat) (f : Visit → Visit) : (s.modVisit n f).lm = s.lm := rfl
@[simp] theorem State.modVisit_cu (s : State) (n : Nat) (f : Visit → Visit) : (s.modVisit n f).cu = s.cu := rfl

@[simp] theorem State.modSampler_pending (s : State) (f : Sampler → Sampler) : (s.modSampler f).pending = s.pending := rfl
@[simp] theorem State.modSampler_freshCounter (s : State) (f : Sampler → Sampler) : (s.modSampler f).freshCounter = s.freshCounter := rfl
@[simp] theorem State.modSampler_now (s : State) (f : Sampler → Sampler) : (s.modSampler f).now = s.now := rfl
@[simp] theorem State.modSampler_clock (s : State) (f : Sampler → Sampler) : (s.modSampler f).clock = s.clock := rfl
@[simp] theorem State.modSampler_lp (s : State) (f : Sampler → Sampler) : (s.modSampler f).lp = s.lp := rfl
@[simp] theorem State.modSampler_dt (s : State) (f : Sampler → Sampler) : (s.modSampler f).dt = s.dt := rfl
@[simp] theorem State.modSampler_gu (s : State) (f : Sampler → Sampler) : (s.modSampler f).gu = s.gu := rfl
@[simp] theorem State.modSampler_vq (s : State) (f : Sampler → Sampler) : (s.modSampler f).vq = s.vq := rfl
@[simp] theorem State.modSampler_bc (s : State) (f : Sampler → Sampler) : (s.modSampler f).bc = s.bc := rfl
@[simp] theorem State.modSampler_pr (s : State) (f : Sampler → Sampler) : (s.modSampler f).pr = s.pr := rfl
@[simp] theorem State.modSampler_qs (s : State) (f : Sampler → Sampler) : (s.modSampler f).qs = f s.qs := rfl
@[simp] theorem State.modSampler_bu (s : State) (f : Sampler → Sampler) : (s.modSampler f).bu = s.bu := rfl
@[simp] theorem State.modSampler_sa (s : State) (f : Sampler → Sampler) : (s.modSampler f).sa = s.sa := rfl
@[simp] theorem State.modSampler_lm (s : State) (f : Sampler → Sampler) : (s.modSampler f).lm = s.lm := rfl
@[simp] theorem State.modSampler_cu (s : State) (f : Sampler → Sampler) : (s.modSampler f).cu = s.cu := rfl

@[simp] theorem State.modArbiter_pending (s : State) (f : Arbiter → Arbiter) : (s.modArbiter f).pending = s.pending := rfl
@[simp] theorem State.modArbiter_freshCounter (s : State) (f : Arbiter → Arbiter) : (s.modArbiter f).freshCounter = s.freshCounter := rfl
@[simp] theorem State.modArbiter_now (s : State) (f : Arbiter → Arbiter) : (s.modArbiter f).now = s.now := rfl
@[simp] theorem State.modArbiter_clock (s : State) (f : Arbiter → Arbiter) : (s.modArbiter f).clock = s.clock := rfl
@[simp] theorem State.modArbiter_lp (s : State) (f : Arbiter → Arbiter) : (s.modArbiter f).lp = s.lp := rfl
@[simp] theorem State.modArbiter_dt (s : State) (f : Arbiter → Arbiter) : (s.modArbiter f).dt = s.dt := rfl
@[simp] theorem State.modArbiter_gu (s : State) (f : Arbiter → Arbiter) : (s.modArbiter f).gu = s.gu := rfl
@[simp] theorem State.modArbiter_vq (s : State) (f : Arbiter → Arbiter) : (s.modArbiter f).vq = s.vq := rfl
@[simp] theorem State.modArbiter_bc (s : State) (f : Arbiter → Arbiter) : (s.modArbiter f).bc = s.bc := rfl
@[simp] theorem State.modArbiter_pr (s : State) (f : Arbiter → Arbiter) : (s.modArbiter f).pr = s.pr := rfl
@[simp] theorem State.modArbiter_qs (s : State) (f : Arbiter → Arbiter) : (s.modArbiter f).qs = s.qs := rfl
@[simp] theorem State.modArbiter_bu (s : State) (f : Arbiter → Arbiter) : (s.modArbiter f).bu = s.bu := rfl
@[simp] theorem State.modArbiter_sa (s : State) (f : Arbiter → Arbiter) : (s.modArbiter f).sa = f s.sa := rfl
@[simp] theorem State.modArbiter_lm (s : State) (f : Arbiter → Arbiter) : (s.modArbiter f).lm = s.lm := rfl
@[simp] theorem State.modArbiter_cu (s : State) (f : Arbiter → Arbiter) : (s.modArbiter f).cu = s.cu := rfl

@[simp] theorem State.modLoop_pending (s : State) (f : Loop → Loop) : (s.modLoop f).pending = s.pending := rfl
@[simp] theorem State.modLoop_freshCounter (s : State) (f : Loop → Loop) : (s.modLoop f).freshCounter = s.freshCounter := rfl
@[simp] theorem State.modLoop_now (s : State) (f : Loop → Loop) : (s.modLoop f).now = s.now := rfl
@[simp] theorem State.modLoop_clock (s : State) (f : Loop → Loop) : (s.modLoop f).clock = s.clock := rfl
@[simp] theorem State.modLoop_lp (s : State) (f : Loop → Loop) : (s.modLoop f).lp = s.lp := rfl
@[simp] theorem State.modLoop_dt (s : State) (f : Loop → Loop) : (s.modLoop f).dt = s.dt := rfl
@[simp] theorem State.modLoop_gu (s : State) (f : Loop → Loop) : (s.modLoop f).gu = s.gu := rfl
@[simp] theorem State.modLoop_vq (s : State) (f : Loop → Loop) : (s.modLoop f).vq = s.vq := rfl
@[simp] theorem State.modLoop_bc (s : State) (f : Loop → Loop) : (s.modLoop f).bc = s.bc := rfl
@[simp] theorem State.modLoop_pr (s : State) (f : Loop → Loop) : (s.modLoop f).pr = s.pr := rfl
@[simp] theorem State.modLoop_qs (s : State) (f : Loop → Loop) : (s.modLoop f).qs = s.qs := rfl
@[simp] theorem State.modLoop_bu (s : State) (f : Loop → Loop) : (s.modLoop f).bu = s.bu := rfl
@[simp] theorem State.modLoop_sa (s : State) (f : Loop → Loop) : (s.modLoop f).sa = s.sa := rfl
@[simp] theorem State.modLoop_lm (s : State) (f : Loop → Loop) : (s.modLoop f).lm = f s.lm := rfl
@[simp] theorem State.modLoop_cu (s : State) (f : Loop → Loop) : (s.modLoop f).cu = s.cu := rfl

@[simp] theorem State.modCharges_pending (s : State) (f : Charges → Charges) : (s.modCharges f).pending = s.pending := rfl
@[simp] theorem State.modCharges_freshCounter (s : State) (f : Charges → Charges) : (s.modCharges f).freshCounter = s.freshCounter := rfl
@[simp] theorem State.modCharges_now (s : State) (f : Charges → Charges) : (s.modCharges f).now = s.now := rfl
@[simp] theorem State.modCharges_clock (s : State) (f : Charges → Charges) : (s.modCharges f).clock = s.clock := rfl
@[simp] theorem State.modCharges_lp (s : State) (f : Charges → Charges) : (s.modCharges f).lp = s.lp := rfl
@[simp] theorem State.modCharges_dt (s : State) (f : Charges → Charges) : (s.modCharges f).dt = s.dt := rfl
@[simp] theorem State.modCharges_gu (s : State) (f : Charges → Charges) : (s.modCharges f).gu = s.gu := rfl
@[simp] theorem State.modCharges_vq (s : State) (f : Charges → Charges) : (s.modCharges f).vq = s.vq := rfl
@[simp] theorem State.modCharges_bc (s : State) (f : Charges → Charges) : (s.modCharges f).bc = s.bc := rfl
@[simp] theorem State.modCharges_pr (s : State) (f : Charges → Charges) : (s.modCharges f).pr = s.pr := rfl
@[simp] theorem State.modCharges_qs (s : State) (f : Charges → Charges) : (s.modCharges f).qs = s.qs := rfl
@[simp] theorem State.modCharges_bu (s : State) (f : Charges → Charges) : (s.modCharges f).bu = s.bu := rfl
@[simp] theorem State.modCharges_sa (s : State) (f : Charges → Charges) : (s.modCharges f).sa = s.sa := rfl
@[simp] theorem State.modCharges_lm (s : State) (f : Charges → Charges) : (s.modCharges f).lm = s.lm := rfl
@[simp] theorem State.modCharges_cu (s : State) (f : Charges → Charges) : (s.modCharges f).cu = f s.cu := rfl

@[simp] theorem State.modTables_pending (s : State) (f : DepotTables → DepotTables) : (s.modTables f).pending = s.pending := rfl
@[simp] theorem State.modTables_freshCounter (s : State) (f : DepotTables → DepotTables) : (s.modTables f).freshCounter = s.freshCounter := rfl
@[simp] theorem State.modTables_now (s : State) (f : DepotTables → DepotTables) : (s.modTables f).now = s.now := rfl
@[simp] theorem State.modTables_clock (s : State) (f : DepotTables → DepotTables) : (s.modTables f).clock = s.clock := rfl
@[simp] theorem State.modTables_lp (s : State) (f : DepotTables → DepotTables) : (s.modTables f).lp = s.lp := rfl
@[simp] theorem State.modTables_dt (s : State) (f : DepotTables → DepotTables) : (s.modTables f).dt = f s.dt := rfl
@[simp] theorem State.modTables_gu (s : State) (f : DepotTables → DepotTables) : (s.modTables f).gu = s.gu := rfl
@[simp] theorem State.modTables_vq (s : State) (f : DepotTables → DepotTables) : (s.modTables f).vq = s.vq := rfl
@[simp] theorem State.modTables_bc (s : State) (f : DepotTables → DepotTables) : (s.modTables f).bc = s.bc := rfl
@[simp] theorem State.modTables_pr (s : State) (f : DepotTables → DepotTables) : (s.modTables f).pr = s.pr := rfl
@[simp] theorem State.modTables_qs (s : State) (f : DepotTables → DepotTables) : (s.modTables f).qs = s.qs := rfl
@[simp] theorem State.modTables_bu (s : State) (f : DepotTables → DepotTables) : (s.modTables f).bu = s.bu := rfl
@[simp] theorem State.modTables_sa (s : State) (f : DepotTables → DepotTables) : (s.modTables f).sa = s.sa := rfl
@[simp] theorem State.modTables_lm (s : State) (f : DepotTables → DepotTables) : (s.modTables f).lm = s.lm := rfl
@[simp] theorem State.modTables_cu (s : State) (f : DepotTables → DepotTables) : (s.modTables f).cu = s.cu := rfl

@[simp] theorem State.reach_pending (s : State) (t : Nat) : (s.reach t).pending = s.pending := rfl
@[simp] theorem State.reach_freshCounter (s : State) (t : Nat) : (s.reach t).freshCounter = s.freshCounter := rfl
@[simp] theorem State.reach_now (s : State) (t : Nat) : (s.reach t).now = max s.now t := rfl
@[simp] theorem State.reach_clock (s : State) (t : Nat) : (s.reach t).clock = s.clock := rfl
@[simp] theorem State.reach_lp (s : State) (t : Nat) : (s.reach t).lp = s.lp := rfl
@[simp] theorem State.reach_dt (s : State) (t : Nat) : (s.reach t).dt = s.dt := rfl
@[simp] theorem State.reach_gu (s : State) (t : Nat) : (s.reach t).gu = s.gu := rfl
@[simp] theorem State.reach_vq (s : State) (t : Nat) : (s.reach t).vq = s.vq := rfl
@[simp] theorem State.reach_bc (s : State) (t : Nat) : (s.reach t).bc = s.bc := rfl
@[simp] theorem State.reach_pr (s : State) (t : Nat) : (s.reach t).pr = s.pr := rfl
@[simp] theorem State.reach_qs (s : State) (t : Nat) : (s.reach t).qs = s.qs := rfl
@[simp] theorem State.reach_bu (s : State) (t : Nat) : (s.reach t).bu = s.bu := rfl
@[simp] theorem State.reach_sa (s : State) (t : Nat) : (s.reach t).sa = s.sa := rfl
@[simp] theorem State.reach_lm (s : State) (t : Nat) : (s.reach t).lm = s.lm := rfl
@[simp] theorem State.reach_cu (s : State) (t : Nat) : (s.reach t).cu = s.cu := rfl

@[simp] theorem State.notify_pending (s : State) (n : Notice) : (s.notify n).pending = s.pending := rfl
@[simp] theorem State.notify_freshCounter (s : State) (n : Notice) : (s.notify n).freshCounter = s.freshCounter := rfl
@[simp] theorem State.notify_now (s : State) (n : Notice) : (s.notify n).now = s.now := rfl
@[simp] theorem State.notify_clock (s : State) (n : Notice) : (s.notify n).clock = s.clock := rfl
@[simp] theorem State.notify_lp (s : State) (n : Notice) : (s.notify n).lp = (s.lp.pushNotice n).pump := rfl
@[simp] theorem State.notify_dt (s : State) (n : Notice) : (s.notify n).dt = s.dt := rfl
@[simp] theorem State.notify_gu (s : State) (n : Notice) : (s.notify n).gu = s.gu := rfl
@[simp] theorem State.notify_vq (s : State) (n : Notice) : (s.notify n).vq = s.vq := rfl
@[simp] theorem State.notify_bc (s : State) (n : Notice) : (s.notify n).bc = s.bc := rfl
@[simp] theorem State.notify_pr (s : State) (n : Notice) : (s.notify n).pr = s.pr := rfl
@[simp] theorem State.notify_qs (s : State) (n : Notice) : (s.notify n).qs = s.qs := rfl
@[simp] theorem State.notify_bu (s : State) (n : Notice) : (s.notify n).bu = s.bu := rfl
@[simp] theorem State.notify_sa (s : State) (n : Notice) : (s.notify n).sa = s.sa := rfl
@[simp] theorem State.notify_lm (s : State) (n : Notice) : (s.notify n).lm = s.lm := rfl
@[simp] theorem State.notify_cu (s : State) (n : Notice) : (s.notify n).cu = s.cu := rfl

@[simp] theorem State.answer_pending (s : State) (r : Reply) : (s.answer r).pending = s.pending := rfl
@[simp] theorem State.answer_freshCounter (s : State) (r : Reply) : (s.answer r).freshCounter = s.freshCounter := rfl
@[simp] theorem State.answer_now (s : State) (r : Reply) : (s.answer r).now = s.now := rfl
@[simp] theorem State.answer_clock (s : State) (r : Reply) : (s.answer r).clock = s.clock := rfl
@[simp] theorem State.answer_lp (s : State) (r : Reply) : (s.answer r).lp = (s.lp.pushReply r).pump := rfl
@[simp] theorem State.answer_dt (s : State) (r : Reply) : (s.answer r).dt = s.dt := rfl
@[simp] theorem State.answer_gu (s : State) (r : Reply) : (s.answer r).gu = s.gu := rfl
@[simp] theorem State.answer_vq (s : State) (r : Reply) : (s.answer r).vq = s.vq := rfl
@[simp] theorem State.answer_bc (s : State) (r : Reply) : (s.answer r).bc = s.bc := rfl
@[simp] theorem State.answer_pr (s : State) (r : Reply) : (s.answer r).pr = s.pr := rfl
@[simp] theorem State.answer_qs (s : State) (r : Reply) : (s.answer r).qs = s.qs := rfl
@[simp] theorem State.answer_bu (s : State) (r : Reply) : (s.answer r).bu = s.bu := rfl
@[simp] theorem State.answer_sa (s : State) (r : Reply) : (s.answer r).sa = s.sa := rfl
@[simp] theorem State.answer_lm (s : State) (r : Reply) : (s.answer r).lm = s.lm := rfl
@[simp] theorem State.answer_cu (s : State) (r : Reply) : (s.answer r).cu = s.cu := rfl

/-! ## Work -/

@[simp] theorem Work.upd_s (w : Work) (f : State → State) : (w.upd f).s = f w.s := rfl
@[simp] theorem Work.upd_todo (w : Work) (f : State → State) : (w.upd f).todo = w.todo := rfl
@[simp] theorem Work.after_s (w : Work) (ts : List Task) : (w.after ts).s = w.s := rfl
@[simp] theorem Work.after_todo (w : Work) (ts : List Task) : (w.after ts).todo = w.todo ++ ts := rfl
@[simp] theorem Work.upd_mk (s : State) (l : List Task) (f : State → State) : (Work.mk s l).upd f = ⟨f s, l⟩ := rfl
@[simp] theorem Work.after_mk (s : State) (l ts : List Task) : (Work.mk s l).after ts = ⟨s, l ++ ts⟩ := rfl

/-! ## Short names -/

@[simp] theorem State.settings_eq (s : State) : s.settings = s.dt.settings := rfl
@[simp] theorem State.mode_eq (s : State) : s.mode = s.lm.mode := rfl
@[simp] theorem State.visit?_eq (s : State) (n : Nat) : s.visit? n = Table.look s.vq.visits n := rfl
@[simp] theorem State.account?_eq (s : State) (n : Nat) : s.account? n = Table.look s.dt.accounts n := rfl
@[simp] theorem State.plan?_eq (s : State) (b : Bay) : s.plan? b = (s.pr.get b).plan := rfl

end Sys2Proof.Machine
end

