-- ==== Sys2Proof/Laws/Link.lean ====
section
/-!
SUPPORT. The link's queues: what a notice and a reply do to them, and the fields they leave.
-/

namespace Sys2Proof.Machine

open Sys2Proof

/-- Everything a pump can do: nothing while a frame is in transmission, else the head of the replies or of the notices
goes on the line. -/
theorem Link.pump_cases (l : Link) :
    (l.tx ≠ none ∧ l.pump = l) ∨
      (∃ r rest, l.tx = none ∧ l.replies = r :: rest ∧ l.pump = { l with tx := some (.reply r), replies := rest }) ∨
      (∃ n rest, l.tx = none ∧ l.replies = [] ∧ l.notices = n :: rest ∧
        l.pump = { l with tx := some (.notice n), notices := rest }) ∨
      (l.tx = none ∧ l.replies = [] ∧ l.notices = [] ∧ l.pump = l) := by
  obtain ⟨rx, hold, replies, notices, tx, lost, a, b, c, d, m, k⟩ := l
  rcases tx with _ | f
  · rcases replies with _ | ⟨r, rest⟩
    · rcases notices with _ | ⟨n, rest⟩ <;> simp [Link.pump]
    · simp [Link.pump]
  · simp [Link.pump]

theorem Link.pump_idle (l : Link) (h : l.pump.tx = none) : l.pump.replies = [] ∧ l.pump.notices = [] := by
  rcases l.pump_cases with ⟨ht, hp⟩ | ⟨r, rest, _, _, hp⟩ | ⟨n, rest, _, _, _, hp⟩ | ⟨_, hr, hn, hp⟩
  · rw [hp] at h
    exact absurd h ht
  · simp [hp] at h
  · simp [hp] at h
  · rw [hp]
    exact ⟨hr, hn⟩

theorem Link.pump_notices_le (l : Link) : l.pump.notices.length ≤ l.notices.length := by
  rcases l.pump_cases with ⟨_, hp⟩ | ⟨r, rest, _, _, hp⟩ | ⟨n, rest, _, _, hn, hp⟩ | ⟨_, _, _, hp⟩
  · rw [hp]
  · simp [hp]
  · simp [hp, hn]
  · rw [hp]

theorem Link.pushNotice_le (l : Link) (n : Notice) (h : l.notices.length ≤ 16) : (l.pushNotice n).notices.length ≤ 16 := by
  unfold Link.pushNotice
  split
  · simp
    omega
  · exact h

@[simp] theorem Link.pump_mark (l : Link) : l.pump.mark = l.mark := by
  unfold Link.pump
  split <;> rfl

@[simp] theorem Link.pump_rxBuf (l : Link) : l.pump.rxBuf = l.rxBuf := by
  unfold Link.pump
  split <;> rfl

@[simp] theorem Link.pushReply_mark (l : Link) (r : Reply) : (l.pushReply r).mark = l.mark := rfl

@[simp] theorem Link.pushReply_rxBuf (l : Link) (r : Reply) : (l.pushReply r).rxBuf = l.rxBuf := rfl

@[simp] theorem Link.pushNotice_mark (l : Link) (n : Notice) : (l.pushNotice n).mark = l.mark := by
  unfold Link.pushNotice
  split <;> rfl

@[simp] theorem Link.pushNotice_rxBuf (l : Link) (n : Notice) : (l.pushNotice n).rxBuf = l.rxBuf := by
  unfold Link.pushNotice
  split <;> rfl

end Sys2Proof.Machine
end

