-- ==== Sys2Proof/Laws/Loop.lean ====
section
/-!
SUPPORT. The bookings of the loop: how far each moves the two sides of the balance law (R160 to R168).
-/

namespace Sys2Proof.Machine

open Sys2Proof

theorem Six.sum_set (v : Six Nat) (b : Bay) (x : Nat) : (v.set b x).toList.sum + v.get b = v.toList.sum + x := by
  cases b <;> simp [Six.set, Six.get, Six.toList] <;> omega

@[simp] theorem notify_leftSide (s : State) (n : Notice) : (s.notify n).leftSide = s.leftSide := rfl

@[simp] theorem decideReclaim_leftSide (s : State) : s.decideReclaim.leftSide = s.leftSide := rfl

@[simp] theorem decideReclaim_rightSide (s : State) : s.decideReclaim.lm.rightSide = s.lm.rightSide := rfl

/-- An overflow takes the same litres from both sides (R163). -/
theorem overflow_balance (s : State) (c : OverflowCause) :
    (s.overflow c).leftSide - (s.overflow c).lm.rightSide = s.leftSide - s.lm.rightSide := by
  by_cases h : s.lm.vSet ≤ (s.settings.pitCapacity : Int)
  · have : s.overflow c = s := if_pos h
    rw [this]
  · have : s.overflow c = _ := if_neg h
    rw [this]
    simp only [State.countDischarged, State.leftSide, State.vLines, State.vBays, Loop.rightSide, State.notify,
      State.modLink, State.modCharges, State.modLoop]
    omega

/-- A purge moves water within the loop (R163). -/
theorem purgeTransfer_balance (s : State) :
    s.purgeTransfer.leftSide - s.purgeTransfer.lm.rightSide = s.leftSide - s.lm.rightSide := by
  unfold State.purgeTransfer
  rw [decideReclaim_leftSide, decideReclaim_rightSide, overflow_balance]
  simp only [State.leftSide, State.vLines, State.vBays, Loop.rightSide, State.modLoop]
  omega

/-- A discharge takes the same litres from both sides (R165). -/
theorem discharge_balance (s : State) (n : Nat) :
    (s.discharge n).leftSide - (s.discharge n).lm.rightSide = s.leftSide - s.lm.rightSide := by
  simp only [State.discharge, State.decideReclaim, State.countDischarged, State.leftSide, State.vLines, State.vBays,
    Loop.rightSide, State.modLoop, State.modCharges]
  omega

/-- A refill's booking moves line volume in from the tank or the well, where the bay held none (R167). -/
theorem bookRefill_balance (s : State) (b : Bay) (r : Refill) (h : s.lm.heldLine.get b = 0) :
    (s.bookRefill b r).leftSide - (s.bookRefill b r).lm.rightSide = s.leftSide - s.lm.rightSide := by
  have hs := Six.sum_set s.lm.heldLine b r.volume
  rw [h] at hs
  rcases r with ⟨src, v, u⟩
  cases src <;>
    simp_all [State.bookRefill, State.leftSide, State.vLines, State.vBays, Loop.rightSide, State.modLoop, State.modBay] <;>
    omega

/-- Drained lines leave both sides (R168). -/
theorem drainLine_balance (s : State) (b : Bay) :
    (s.drainLine b).leftSide - (s.drainLine b).lm.rightSide = s.leftSide - s.lm.rightSide := by
  have hs := Six.sum_set s.lm.heldLine b 0
  simp only [State.drainLine, State.leftSide, State.vLines, State.vBays, Loop.rightSide, State.modLoop, State.modBay]
  omega

/-- The return of a phase end, with the delivered water already out of V_bays, brings it back to the loop less its
carry-off (R162). -/
theorem phaseReturn_balance (s : State) (b : Bay) (d : Nat) (h : s.settings.carryOff ≤ 1000) :
    (s.phaseReturn b d).leftSide - (s.phaseReturn b d).lm.rightSide = s.leftSide + d - s.lm.rightSide := by
  unfold State.phaseReturn
  rw [decideReclaim_leftSide, decideReclaim_rightSide, overflow_balance]
  have hc : s.carryOff d ≤ d := by
    unfold State.carryOff
    exact Nat.div_le_of_le_mul (by rw [Nat.mul_comm 1000]; exact Nat.mul_le_mul_left d h)
  simp only [State.leftSide, State.vLines, State.vBays, Loop.rightSide, State.modLoop]
  omega

end Sys2Proof.Machine
end

