-- ==== Sys2Proof/Laws/PerInstr.lean ====
section
/-!
SUPPORT. Family Widths, one lemma per command: a command that the decoder reads from a received frame has every field in
the width that carries it, and no frame is read as a command that is no request.
-/

namespace Sys2Proof.Laws.Widths

open Sys2Proof

/-- The command, where it is what a frame of at most 240 body bytes decodes to, is well formed. -/
def Statement (i : Instr) : Prop :=
  ∀ (kind tag : Byte) (body : List Byte), body.length ≤ 240 → decodeFrame kind tag body = i → i.wf = true

theorem holds (i : Instr) : Statement i := by
  intro kind tag body h hd
  rw [← hd]
  exact decodeFrame_wf kind tag body h

theorem putClass (tag : Byte) (body : Body PutClass) : Statement (.putClass tag body) := holds _

theorem putAccount (tag : Byte) (body : Body PutAccount) : Statement (.putAccount tag body) := holds _

theorem dropAccount (tag : Byte) (body : Body Nat) : Statement (.dropAccount tag body) := holds _

theorem putTag (tag : Byte) (body : Body PutTag) : Statement (.putTag tag body) := holds _

theorem dropTag (tag : Byte) (body : Body TagNo) : Statement (.dropTag tag body) := holds _

theorem putTariff (tag : Byte) (body : Body PutTariff) : Statement (.putTariff tag body) := holds _

theorem putProgramme (tag : Byte) (body : Body PutProgramme) : Statement (.putProgramme tag body) := holds _

theorem setDepot (tag : Byte) (body : Body SetDepot) : Statement (.setDepot tag body) := holds _

theorem setMode (tag : Byte) (body : Body SetMode) : Statement (.setMode tag body) := holds _

theorem setClock (tag : Byte) (body : Body SetClock) : Statement (.setClock tag body) := holds _

theorem setAllowance (tag : Byte) (body : Body Nat) : Statement (.setAllowance tag body) := holds _

theorem bayService (tag : Byte) (body : Body BayService) : Statement (.bayService tag body) := holds _

theorem releaseBay (tag : Byte) (body : Body Nat) : Statement (.releaseBay tag body) := holds _

theorem assignBay (tag : Byte) (body : Body AssignBay) : Statement (.assignBay tag body) := holds _

theorem cancelVisit (tag : Byte) (body : Body Nat) : Statement (.cancelVisit tag body) := holds _

theorem admitOverride (tag : Byte) (body : Body Nat) : Statement (.admitOverride tag body) := holds _

theorem settleAccount (tag : Byte) (body : Body SettleAccount) : Statement (.settleAccount tag body) := holds _

theorem closePeriod (tag : Byte) (body : Body Unit) : Statement (.closePeriod tag body) := holds _

theorem trimLoop (tag : Byte) (body : Body Unit) : Statement (.trimLoop tag body) := holds _

theorem discharge (tag : Byte) (body : Body Nat) : Statement (.discharge tag body) := holds _

theorem linkReset (tag : Byte) (body : Body Unit) : Statement (.linkReset tag body) := holds _

theorem getStatus (tag : Byte) (body : Body Unit) : Statement (.getStatus tag body) := holds _

theorem getVisit (tag : Byte) (body : Body GetVisit) : Statement (.getVisit tag body) := holds _

theorem getQueue (tag : Byte) (body : Body Unit) : Statement (.getQueue tag body) := holds _

theorem getBay (tag : Byte) (body : Body Nat) : Statement (.getBay tag body) := holds _

theorem getWater (tag : Byte) (body : Body Unit) : Statement (.getWater tag body) := holds _

theorem getAccount (tag : Byte) (body : Body Nat) : Statement (.getAccount tag body) := holds _

theorem getReading (tag : Byte) (body : Body Nat) : Statement (.getReading tag body) := holds _

theorem snapLane (tag : Byte) (body : Body Nat) : Statement (.snapLane tag body) := holds _

theorem takeCharges (tag : Byte) (body : Body Nat) : Statement (.takeCharges tag body) := holds _

theorem confirmCharges (tag : Byte) (body : Body Seq) : Statement (.confirmCharges tag body) := holds _

theorem rewindCharges (tag : Byte) (body : Body Unit) : Statement (.rewindCharges tag body) := holds _

theorem unknownKind (tag : Byte) (kind : Byte) : Statement (.unknownKind tag kind) := holds _

theorem frameReceived (bytes : List Byte) : Statement (.frameReceived bytes) := holds _

theorem interByteGap (bytes : List Byte) : Statement (.interByteGap bytes) := holds _

theorem lineBreak : Statement .lineBreak := holds _

theorem frameSent : Statement .frameSent := holds _

theorem coldStart (levels : FieldLevels) : Statement (.coldStart levels) := holds _

theorem warmRestart (cause : RestartCause) (levels : FieldLevels) : Statement (.warmRestart cause levels) := holds _

theorem treadleLevelChange (lane : Lane) (treadle : Treadle) (on : Bool) : Statement (.treadleLevelChange lane treadle on) := holds _

theorem debounceExpiry (lane : Lane) (treadle : Treadle) : Statement (.debounceExpiry lane treadle) := holds _

theorem stopBeamChange (lane : Lane) (active : Bool) : Statement (.stopBeamChange lane active) := holds _

theorem clearBeamChange (lane : Lane) (active : Bool) : Statement (.clearBeamChange lane active) := holds _

theorem keypadPress (lane : Lane) (key : Prog) : Statement (.keypadPress lane key) := holds _

theorem tagRead (lane : Lane) (number : TagNo) : Statement (.tagRead lane number) := holds _

theorem stallExpiry (lane : Lane) : Statement (.stallExpiry lane) := holds _

theorem waitExpiry (lane : Lane) : Statement (.waitExpiry lane) := holds _

theorem entryBarrierPulseEnd (lane : Lane) : Statement (.entryBarrierPulseEnd lane) := holds _

theorem presenceSensorChange (bay : Bay) (sensor : Presence) (active : Bool) : Statement (.presenceSensorChange bay sensor active) := holds _

theorem exitButtonPress (bay : Bay) : Statement (.exitButtonPress bay) := holds _

theorem callTimerExpiry (bay : Bay) : Statement (.callTimerExpiry bay) := holds _

theorem settleTimerExpiry (bay : Bay) : Statement (.settleTimerExpiry bay) := holds _

theorem lossFilterExpiry (bay : Bay) : Statement (.lossFilterExpiry bay) := holds _

theorem exitPulseExpiry (bay : Bay) : Statement (.exitPulseExpiry bay) := holds _

theorem exitStallExpiry (bay : Bay) : Statement (.exitStallExpiry bay) := holds _

theorem sensorTimerExpiry (bay : Bay) : Statement (.sensorTimerExpiry bay) := holds _

theorem meterPulse (bay : Bay) (meter : Meter) : Statement (.meterPulse bay meter) := holds _

theorem phaseTimeLimit (bay : Bay) : Statement (.phaseTimeLimit bay) := holds _

theorem waitLimit (bay : Bay) : Statement (.waitLimit bay) := holds _

theorem nozzleTimeout (bay : Bay) : Statement (.nozzleTimeout bay) := holds _

theorem conversionCompletion (code : BitVec 10) : Statement (.conversionCompletion code) := holds _

theorem backgroundPeriodDue (channel : Channel) : Statement (.backgroundPeriodDue channel) := holds _

theorem holdTimerExpiry : Statement .holdTimerExpiry := holds _

theorem pumpStartLeadExpiry (supply : Supply) : Statement (.pumpStartLeadExpiry supply) := holds _

theorem grantTimeout (supply : Supply) : Statement (.grantTimeout supply) := holds _

theorem drawMaxCut (supply : Supply) : Statement (.drawMaxCut supply) := holds _

theorem runOnExpiry (supply : Supply) : Statement (.runOnExpiry supply) := holds _

theorem purgeTimerExpiry : Statement .purgeTimerExpiry := holds _

theorem purgeCompletion : Statement .purgeCompletion := holds _

theorem windowEnd : Statement .windowEnd := holds _

theorem slotEnd : Statement .slotEnd := holds _

theorem reclaimPulse : Statement .reclaimPulse := holds _

theorem dischargeValveClose : Statement .dischargeValveClose := holds _

theorem refillCompletion (bay : Bay) : Statement (.refillCompletion bay) := holds _

theorem persistTimerExpiry : Statement .persistTimerExpiry := holds _

theorem deferralExpiry : Statement .deferralExpiry := holds _

theorem writeCompletion : Statement .writeCompletion := holds _

theorem ageing (seq : Seq) : Statement (.ageing seq) := holds _

theorem clockSecond : Statement .clockSecond := holds _

theorem badLengthByte (bytes : List Byte) : Statement (.badLengthByte bytes) := holds _

end Sys2Proof.Laws.Widths
end

