-- ==== Sys2Proof/Laws/Rest.lean ====
section
/-!
SUPPORT. The consequences of a command come to rest (log 5): each one taken makes the work that is left lighter, so that
the weight of the work is as many steps as it can need. First the operations that leave the weight of the state as it is,
then what each piece of work adds to it at most.
-/

namespace Sys2Proof.Machine

open Sys2Proof

/-! ## What the weight of a state is read from -/

structure Gauge where
  depth : Nat
  lanes : Nat
  phases : Nat
  supply : Nat
  loop : Nat
deriving DecidableEq, Repr

def State.gauge (s : State) : Gauge where
  depth := s.depth
  lanes := s.gu.p1.weight + s.gu.p2.weight
  phases := (s.pr.toList.map (BayRunner.weight s.depth)).sum
  supply := s.sa.weight
  loop := s.lm.weight

def Gauge.weight (g : Gauge) : Nat := g.lanes + g.phases + g.supply + g.loop

theorem State.weight_gauge (s : State) : s.weight = s.gauge.weight := rfl

theorem State.depth_gauge (s : State) : s.depth = s.gauge.depth := rfl

theorem Six.map_sum_set {α : Type} (f : α → Nat) (v : Six α) (b : Bay) (x : α) :
    ((v.set b x).toList.map f).sum + f (v.get b) = (v.toList.map f).sum + f x := by
  cases b <;> simp [Six.set, Six.get, Six.toList] <;> omega

/-! ## Operations that leave the weight as it is -/

section same

variable (s : State)

@[simp] theorem notify_gauge (n : Notice) : (s.notify n).gauge = s.gauge := rfl
@[simp] theorem modBay_gauge (b : Bay) (f : BayRecord → BayRecord) : (s.modBay b f).gauge = s.gauge := rfl
@[simp] theorem modVisits_gauge (f : Table Visit → Table Visit) : (s.modVisits f).gauge = s.gauge := rfl
@[simp] theorem modVisit_gauge (n : Nat) (f : Visit → Visit) : (s.modVisit n f).gauge = s.gauge := rfl
@[simp] theorem modQueue_gauge (f : List Nat → List Nat) : (s.modQueue f).gauge = s.gauge := rfl
@[simp] theorem modCalled_gauge (f : List Nat → List Nat) : (s.modCalled f).gauge = s.gauge := rfl
@[simp] theorem modSampler_gauge (f : Sampler → Sampler) : (s.modSampler f).gauge = s.gauge := rfl
@[simp] theorem modCharges_gauge (f : Charges → Charges) : (s.modCharges f).gauge = s.gauge := rfl
@[simp] theorem reserve_gauge (b : Bay) (n : Nat) : (s.reserve b n).gauge = s.gauge := rfl
@[simp] theorem settleFresh_gauge (b : Bay) (n : Nat) : (s.settleFresh b n).gauge = s.gauge := rfl

/-- A change of the arbiter that starts and ends no purge. -/
@[simp] theorem modArbiter_gauge (f : Arbiter → Arbiter) (h : (f s.sa).purge = s.sa.purge) :
    (s.modArbiter f).gauge = s.gauge := by
  simp [State.gauge, State.modArbiter, Arbiter.weight, h, State.depth]

/-- A change of the loop that leaves the mode and the pending drain. -/
@[simp] theorem modLoop_gauge (f : Loop → Loop) (h : (f s.lm).drainPending = s.lm.drainPending)
    (hm : (f s.lm).mode = s.lm.mode) : (s.modLoop f).gauge = s.gauge := by
  simp [State.gauge, State.modLoop, Loop.weight, h, hm, State.depth]

/-- A change of a running phase that leaves its number. -/
@[simp] theorem modPlan_gauge (b : Bay) (f : PhaseRun → PhaseRun) (h : ∀ p, (f p).number = p.number) :
    (s.modPlan b f).gauge = s.gauge := by
  have hw : ∀ r : BayRunner, ∀ d : Nat, BayRunner.weight d ⟨r.plan.map f, r.stray⟩ = BayRunner.weight d r := by
    intro r d
    cases hp : r.plan <;> simp [BayRunner.weight, hp, h]
  have hs := Six.map_sum_set (BayRunner.weight s.depth) s.pr b ⟨(s.pr.get b).plan.map f, (s.pr.get b).stray⟩
  rw [hw] at hs
  have he : ((s.modPlan b f).pr.toList.map (BayRunner.weight s.depth)).sum =
      (s.pr.toList.map (BayRunner.weight s.depth)).sum := by
    rw [State.modPlan_pr]
    omega
  show Gauge.mk s.depth _ ((s.modPlan b f).pr.toList.map (BayRunner.weight s.depth)).sum _ _ = _
  rw [he]
  rfl

/-- A lane set to a record of its own weight. -/
theorem modLane_gauge (l : Lane) (f : LaneRecord → LaneRecord) (h : (f (s.gu.get l)).weight = (s.gu.get l).weight) :
    (s.modLane l f).gauge = s.gauge := by
  cases l <;> simp_all [State.gauge, State.modLane, Pair.set, Pair.get, State.depth]

end same

/-! Charges and visits -/

section same

variable (s : State)

@[simp] theorem startWrite_gauge : s.startWrite.gauge = s.gauge := by
  unfold State.startWrite
  split
  · split <;> rfl
  · rfl
  · rfl

@[simp] theorem handOver_gauge (n : Nat) : (s.handOver n).gauge = s.gauge := by
  unfold State.handOver
  simp only [startWrite_gauge]
  split <;> rfl

@[simp] theorem testPending_gauge : s.testPending.gauge = s.gauge := by
  unfold State.testPending
  split
  · split
    · exact startWrite_gauge _
    · rfl
  · rfl

@[simp] theorem clearIfAdmitted_gauge (n : Nat) (l : Lane) : (s.clearIfAdmitted n l).gauge = s.gauge := by
  unfold State.clearIfAdmitted
  split
  · split
    · next h _ => exact modLane_gauge s l _ (by simp [LaneRecord.weight, LaneRecord.cleared, h])
    · rfl
  · rfl

@[simp] theorem laneLost_gauge (n : Nat) : (s.laneLost n).gauge = s.gauge := by
  simp [State.laneLost]

@[simp] theorem cancelled_gauge (n : Nat) (v : Visit) (left : VisitState) (b : Option Bay) (c : CancelCause) :
    (s.cancelled n v left b c).gauge = s.gauge := by
  simp [State.cancelled]

@[simp] theorem requeue_gauge (n k : Nat) : (s.requeue n k).gauge = s.gauge := rfl

@[simp] theorem callIfFits_gauge (n : Nat) : (s.callIfFits n).gauge = s.gauge := by
  unfold State.callIfFits
  split
  · rfl
  · split <;> rfl

/-! Bays and lines -/

@[simp] theorem bayNotice_gauge (b : Bay) (left : BayState) (n : Option Nat) : (s.bayNotice b left n).gauge = s.gauge := rfl

@[simp] theorem readEmpty_gauge (b : Bay) : (s.readEmpty b).gauge = s.gauge := by
  unfold State.readEmpty
  dsimp only
  split
  · rfl
  · split <;> rfl

@[simp] theorem enterClosed_gauge (b : Bay) (left : BayState) (n : Option Nat) : (s.enterClosed b left n).gauge = s.gauge :=
  rfl

@[simp] theorem enterRefilling_gauge (b : Bay) (left : BayState) (n : Option Nat) :
    (s.enterRefilling b left n).gauge = s.gauge := rfl

@[simp] theorem drainLine_gauge (b : Bay) : (s.drainLine b).gauge = s.gauge := rfl

@[simp] theorem decideReclaim_gauge : s.decideReclaim.gauge = s.gauge := rfl

@[simp] theorem overflow_gauge (c : OverflowCause) : (s.overflow c).gauge = s.gauge := by
  unfold State.overflow
  dsimp only
  split <;> rfl

@[simp] theorem phaseReturn_gauge (b : Bay) (n : Nat) : (s.phaseReturn b n).gauge = s.gauge := by
  unfold State.phaseReturn
  simp only [decideReclaim_gauge, overflow_gauge]
  rfl

/-! The converter -/

@[simp] theorem choose_gauge (d : Bool) : (s.choose d).gauge = s.gauge := by
  unfold State.choose
  split <;> rfl

@[simp] theorem chooseIfIdle_gauge : s.chooseIfIdle.gauge = s.gauge := by
  unfold State.chooseIfIdle
  split
  · exact choose_gauge s false
  · rfl

@[simp] theorem discardCh1_gauge : s.discardCh1.gauge = s.gauge := by
  unfold State.discardCh1
  split
  · exact choose_gauge s false
  · rfl

@[simp] theorem holdCh1_gauge : s.holdCh1.gauge = s.gauge := by
  simp [State.holdCh1]

@[simp] theorem dropDemand_gauge (b : Bay) : (s.dropDemand b).gauge = s.gauge := rfl

@[simp] theorem dropAnswered_gauge (l : List (Bay × ReadingsUsed)) : (s.dropAnswered l).gauge = s.gauge := by
  unfold State.dropAnswered
  induction l generalizing s with
  | nil => rfl
  | cons a l ih => simp [ih]

/-! The supply -/

@[simp] theorem setRequest_gauge (b : Bay) (x : Bool) : (s.setRequest b x).gauge = s.gauge := rfl

@[simp] theorem setChannel_gauge (ch : Supply) (c : SupplyState) : (s.setChannel ch c).gauge = s.gauge := rfl

@[simp] theorem toRunOn_gauge (ch : Supply) : (s.toRunOn ch).gauge = s.gauge := by
  unfold State.toRunOn
  split <;> rfl

@[simp] theorem toRunOn_pr (ch : Supply) : (s.toRunOn ch).pr = s.pr := by
  unfold State.toRunOn
  split <;> rfl

@[simp] theorem takeTurn_gauge (b : Bay) : (s.takeTurn b).gauge = s.gauge := rfl

@[simp] theorem startPurgeTimer_gauge : s.startPurgeTimer.gauge = s.gauge := rfl

theorem PhaseRun.startNozzle_number (p : PhaseRun) (now : Nat) : (p.startNozzle now).number = p.number := by
  unfold PhaseRun.startNozzle
  split
  · split <;> rfl
  · rfl

@[simp] theorem PhaseRun.run_number (p : PhaseRun) (now : Nat) : (p.run now).number = p.number :=
  PhaseRun.startNozzle_number _ _

@[simp] theorem PhaseRun.pause_number (p : PhaseRun) (now : Nat) : (p.pause now).number = p.number := by
  unfold PhaseRun.pause PhaseRun.freezeNozzle
  split <;> rfl

@[simp] theorem PhaseRun.granted_number (p : PhaseRun) (now : Nat) (ch : Supply) : (p.granted now ch).number = p.number := by
  unfold PhaseRun.granted
  split <;> simp

@[simp] theorem grant_gauge (ch : Supply) (b : Bay) : (s.grant ch b).gauge = s.gauge := by
  unfold State.grant
  rw [modPlan_gauge _ _ _ (by simp)]
  rfl

@[simp] theorem allot_gauge (ch : Supply) (b : Bay) : (s.allot ch b).gauge = s.gauge := by
  unfold State.allot
  simp only
  split <;> simp

@[simp] theorem grantOne_gauge : s.grantOne.gauge = s.gauge := by
  unfold State.grantOne
  split <;> simp

/-! Notices of plans and modes -/

@[simp] theorem noteQuality_gauge (b : Bay) (p : PhaseRun) (u : ReadingsUsed) (x a d : Nat) (r : PlanResult) :
    (s.noteQuality b p u x a d r).gauge = s.gauge := by
  unfold State.noteQuality
  split <;> rfl

@[simp] theorem modeNotice_gauge (left : DepotMode) (c : ModeCause) (d k : Option Nat) :
    (s.modeNotice left c d k).gauge = s.gauge := rfl

@[simp] theorem frostPersist_gauge (v : Int) : (s.frostPersist v).gauge = s.gauge := by
  unfold State.frostPersist
  split
  · split <;> rfl
  · rfl

end same

/-! ## What a piece of work costs -/

/-- The work grows heavier by at most so much. -/
def Costs (k : Nat) (w v : Work) : Prop := v.s.depth = w.s.depth ∧ v.weight ≤ w.weight + k

/-- The work grows heavier by consequences alone, of at most so much weight. -/
def Adds (k : Nat) (w v : Work) : Prop := v.s.gauge = w.s.gauge ∧ v.weight ≤ w.weight + k

theorem Costs.trans {j k : Nat} {w v u : Work} (h : Costs j w v) (g : Costs k v u) : Costs (j + k) w u :=
  ⟨g.1.trans h.1, by have := h.2; have := g.2; omega⟩

theorem Costs.mono {j k : Nat} {w v : Work} (h : Costs j w v) (hk : j ≤ k) : Costs k w v :=
  ⟨h.1, by have := h.2; omega⟩

theorem Adds.trans {j k : Nat} {w v u : Work} (h : Adds j w v) (g : Adds k v u) : Adds (j + k) w u :=
  ⟨g.1.trans h.1, by have := h.2; have := g.2; omega⟩

theorem Adds.mono {j k : Nat} {w v : Work} (h : Adds j w v) (hk : j ≤ k) : Adds k w v :=
  ⟨h.1, by have := h.2; omega⟩

theorem Adds.costs {k : Nat} {w v : Work} (h : Adds k w v) : Costs k w v := ⟨congrArg Gauge.depth h.1, h.2⟩

theorem Adds.refl (k : Nat) (w : Work) : Adds k w w := ⟨rfl, Nat.le_add_right _ _⟩

/-- An operation that leaves the weight of the state adds nothing. -/
theorem Adds.upd (w : Work) {f : State → State} (h : (f w.s).gauge = w.s.gauge) : Adds 0 w (w.upd f) := by
  refine ⟨h, ?_⟩
  have hd : (f w.s).depth = w.s.depth := congrArg Gauge.depth h
  simp [Work.weight, Work.upd, State.weight_gauge, h, hd]

/-- Consequences added cost their weight. -/
theorem Adds.after (w : Work) (ts : List Task) : Adds (ts.map (Task.weight w.s.depth)).sum w (w.after ts) := by
  refine ⟨rfl, ?_⟩
  simp [Work.weight, Work.after]
  omega

/-- Taken silently, an operation that leaves the weight of the state adds nothing. -/
theorem Adds.silent (w : Work) {f : Work → Work} (h : ∀ v, (f v).s.gauge = v.s.gauge) : Adds 0 w (w.silent f) :=
  Adds.upd w (h _)

/-- A list of pieces of work costs each of them once. -/
theorem Adds.fold {α : Type} {k : Nat} {f : Work → α → Work} (h : ∀ w a, Adds k w (f w a)) (l : List α) (w : Work) :
    Adds (k * l.length) w (l.foldl f w) := by
  induction l generalizing w with
  | nil => exact Adds.refl 0 w
  | cons a l ih => exact ((h w a).trans (ih _)).mono (by simp [Nat.mul_add]; omega)

/-! ### Bays and visits -/

theorem enterEmpty_adds (w : Work) (b : Bay) (left : BayState) (n : Option Nat) : Adds 4 w (w.enterEmpty b left n) :=
  (Adds.upd w (by simp)).trans (Adds.after _ [.matchPass])

theorem restTestFrom_adds (w : Work) (b : Bay) (left : BayState) (n : Option Nat) :
    Adds 4 w (w.restTestFrom b left n) := by
  unfold Work.restTestFrom
  dsimp only
  have h : Adds 0 w (w.upd (·.modBay b fun r => { r with service := r.service.afterTest })) := Adds.upd w (by simp)
  split
  · exact h.mono (by omega)
  · split
    · exact h.trans (enterEmpty_adds _ b left n)
    · exact (h.trans (Adds.upd _ (by simp))).mono (by omega)
    · exact (h.trans (Adds.upd _ (by simp))).mono (by omega)

theorem restTest_adds (w : Work) (b : Bay) (n : Option Nat) : Adds 4 w (w.restTest b n) := restTestFrom_adds w b _ n

theorem restTestIfFree_adds (w : Work) (b : Bay) : Adds 4 w (w.restTestIfFree b) := by
  unfold Work.restTestIfFree
  split
  · exact restTest_adds w b none
  · exact restTest_adds w b none
  · exact Adds.refl 4 w

theorem callEnded_adds (w : Work) (b : Bay) : Adds 4 w (w.callEnded b) := by
  unfold Work.callEnded
  dsimp only
  have h : Adds 0 w (w.upd (·.modBay b fun r => { r with called := none, callTimer := none, lamp := false })) :=
    Adds.upd w (by simp)
  split
  · exact h.trans (restTest_adds _ b none)
  · exact h.mono (by omega)

theorem removeVisit_adds (w : Work) (n : Nat) (left : VisitState) (b : Option Bay) (c : CancelCause) :
    Adds 3 w (w.removeVisit n left b c) := by
  unfold Work.removeVisit
  split
  · exact Adds.refl 3 w
  · exact (Adds.upd w (by simp)).trans (Adds.after _ [.capacity])

theorem cancel_adds (w : Work) (n : Nat) (c : CancelCause) : Adds 7 w (w.cancel n c) := by
  unfold Work.cancel
  split
  · exact Adds.refl 7 w
  · next v _ =>
    split
    · exact ((Adds.upd w (by simp)).trans (removeVisit_adds _ n .queued none c)).mono (by omega)
    · have h : Adds 0 w (w.upd (·.modCalled (without n))) := Adds.upd w (by simp)
      dsimp only
      split
      · exact ((h.trans (callEnded_adds _ _)).trans (removeVisit_adds _ n .called _ c)).mono (by omega)
      · exact (h.trans (removeVisit_adds _ n .called _ c)).mono (by omega)
    · exact Adds.refl 7 w

theorem matchPass_adds (w : Work) : Adds 3 w w.matchPass := by
  have hf : ∀ (l : List Nat) (s : State), (l.foldl State.callIfFits s).gauge = s.gauge := by
    intro l
    induction l with
    | nil => exact fun _ => rfl
    | cons n l ih => exact fun s => (ih _).trans (callIfFits_gauge s n)
  have h : Adds 0 w (w.upd fun s => w.s.vq.queue.foldl State.callIfFits s) := Adds.upd w (hf _ _)
  unfold Work.matchPass
  dsimp only
  split
  · exact h.mono (by omega)
  · exact h.trans (Adds.after _ [.capacity])

theorem withdrawAll_adds (w : Work) : Adds 7 w w.withdrawAll := by
  have hf : ∀ (l : List (Nat × Bay)) (s : State),
      (l.foldl (fun s a => s.modVisit a.1 fun v => { v with state := .queued, bay := none }) s).gauge = s.gauge := by
    intro l
    induction l with
    | nil => exact fun _ => rfl
    | cons a l ih => exact fun s => (ih _).trans (modVisit_gauge s _ _)
  unfold Work.withdrawAll
  dsimp only
  refine ((((Adds.upd w (by simp)).trans (Adds.upd _ (hf _ _))).trans (Adds.upd _ (by simp))).trans
    ((Adds.silent _ ?_).trans (Adds.after _ _))).mono ?_
  · intro v
    exact ((Adds.fold (fun w (a : Nat × Bay) => callEnded_adds w a.2) _ v).trans
      (Adds.fold (fun w (a : Nat × Bay) => removeVisit_adds w a.1 .called (some a.2) .noShow) _ _)).1
  · split <;> split <;> simp [Task.weight]

theorem washEnd_adds (w : Work) (b : Bay) (c : EndCause) : Adds 1 w (w.washEnd b c) := by
  unfold Work.washEnd
  split
  · exact Adds.refl 1 w
  · exact (Adds.upd w (by simp)).trans (Adds.after _ [.drainCheck])

/-! ### The supply and the plans -/

theorem leaveSupply_adds (w : Work) (b : Bay) : Adds 2 w (w.leaveSupply b) := by
  unfold Work.leaveSupply
  have h : Adds 0 w (w.upd (·.setRequest b false)) := Adds.upd w (by simp)
  dsimp only
  split
  · exact ((h.trans (Adds.upd _ (by simp))).trans (Adds.after _ [.grantPass, .purgeTest])).mono (by simp [Task.weight])
  · exact h.mono (by omega)

theorem requestDraw_adds (w : Work) (b : Bay) : Adds 1 w (w.requestDraw b) := by
  unfold Work.requestDraw
  split
  · exact Adds.refl 1 w
  · exact (Adds.upd w (by simp)).trans (Adds.after _ [.grantPass])

theorem supplyMode_adds (w : Work) (new : DepotMode) : Adds 2 w (w.supplyMode new) := by
  unfold Work.supplyMode
  have h : Adds 0 w (w.upd fun s =>
      if circulates new then (if s.sa.purgeTimer.isSome then s else s.startPurgeTimer)
      else s.modArbiter fun a => { a with purgeTimer := none }) := by
    refine Adds.upd w ?_
    split
    · split
      · rfl
      · exact startPurgeTimer_gauge _
    · exact modArbiter_gauge _ _ rfl
  dsimp only
  split
  · exact h.trans (Adds.after _ [.grantPass, .purgeTest])
  · exact h.mono (by omega)

theorem runPlan_adds (w : Work) (b : Bay) (f : PlanFigures) : Adds 1 w (w.runPlan b f) := by
  unfold Work.runPlan
  have h : Adds 0 w (w.upd fun s => (s.modPlan b fun p => { p with reserved := f.fresh }).reserve b f.fresh) :=
    Adds.upd w (by rw [reserve_gauge]; exact modPlan_gauge _ _ _ fun _ => rfl)
  dsimp only
  split
  · exact (h.trans (Adds.upd _ (modPlan_gauge _ _ _ (by simp)))).trans (requestDraw_adds _ b)
  · exact (h.trans (Adds.upd _ (modPlan_gauge _ _ _ (by simp)))).mono (by omega)

theorem takePlan_adds (w : Work) (b : Bay) (u : ReadingsUsed) : Adds 4 w (w.takePlan b u) := by
  unfold Work.takePlan
  split
  · exact Adds.refl 4 w
  · dsimp only
    split
    · exact ((Adds.upd w (by simp)).trans (runPlan_adds _ b _)).mono (by omega)
    · exact (Adds.upd w (by simp)).mono (by omega)
    · exact (Adds.upd w (by simp)).trans (Adds.after _ [.endPhase b .skipped false])
    · exact (Adds.upd w (by simp)).trans (Adds.after _ [.endPhase b .skipped true])

/-- A demand answered at once brings its plan. -/
theorem demand_adds (w : Work) (b : Bay) : Adds 5 w (w.demand b) := by
  unfold Work.demand
  dsimp only
  split
  · exact Adds.after _ [.plans [_]]
  · exact (Adds.upd w (by simp)).mono (by omega)

/-! ## Operations that change the weight of the state -/

theorem modLane_weight (s : State) (l : Lane) (f : LaneRecord → LaneRecord) :
    (s.modLane l f).weight + (s.gu.get l).weight = s.weight + (f (s.gu.get l)).weight := by
  cases l <;> simp [State.weight, Pair.set, Pair.get, State.depth] <;> omega

theorem modRunner_weight (s : State) (b : Bay) (f : BayRunner → BayRunner) :
    (s.modRunner b f).weight + (s.pr.get b).weight s.depth = s.weight + (f (s.pr.get b)).weight s.depth := by
  have h := Six.map_sum_set (BayRunner.weight s.depth) s.pr b (f (s.pr.get b))
  have hd : (s.modRunner b f).depth = s.depth := rfl
  simp [State.weight, hd]
  omega

theorem modArbiter_weight (s : State) (f : Arbiter → Arbiter) :
    (s.modArbiter f).weight + s.sa.weight = s.weight + (f s.sa).weight := by
  have hd : (s.modArbiter f).depth = s.depth := rfl
  simp only [State.weight, hd, State.modArbiter_gu, State.modArbiter_pr, State.modArbiter_sa, State.modArbiter_lm]
  omega

theorem modLoop_weight (s : State) (f : Loop → Loop) :
    (s.modLoop f).weight + s.lm.weight = s.weight + (f s.lm).weight := by
  have hd : (s.modLoop f).depth = s.depth := rfl
  simp only [State.weight, hd, State.modLoop_gu, State.modLoop_pr, State.modLoop_sa, State.modLoop_lm]
  omega

/-- A decision takes a WAITING lane's weight, or leaves it waiting; an admission brings a matching pass. -/
theorem decideLane_costs (w : Work) (l : Lane) (o : Bool) :
    (w.redecide l o).s.depth = w.s.depth ∧
      (w.redecide l o).weight + (w.s.gu.get l).weight ≤ w.weight + 4 := by
  have hr : ∀ r, (w.s.refuse l r o).weight + (w.s.gu.get l).weight = w.s.weight := by
    intro r
    unfold State.refuse
    rw [State.weight_gauge, notify_gauge, State.startStall, modLane_gauge _ _ _ rfl, ← State.weight_gauge, modLane_weight]
    rfl
  have ha : ∀ i, (w.s.admission l i o).weight + (w.s.gu.get l).weight = w.s.weight := by
    intro i
    unfold State.admission
    simp only [State.weight_gauge, notify_gauge]
    rw [← State.weight_gauge]
    exact modLane_weight _ l _
  have hle : (w.s.gu.get l).weight ≤ 4 := by
    unfold LaneRecord.weight
    split <;> simp
  have hw : (w.s.holdWaiting l o).depth = w.s.depth ∧
      (w.s.holdWaiting l o).weight + (w.s.gu.get l).weight ≤ w.s.weight + 4 := by
    unfold State.holdWaiting
    split
    · exact ⟨rfl, by omega⟩
    · refine ⟨rfl, ?_⟩
      rw [modLane_weight]
      rfl
  unfold Work.redecide Work.decideLane
  dsimp only
  split
  · next r _ =>
    refine ⟨rfl, ?_⟩
    have := hr r
    have hd : (w.s.refuse l r o).depth = w.s.depth := rfl
    simp [Work.weight, Work.upd, hd]
    omega
  · split
    · refine ⟨hw.1, ?_⟩
      have := hw.2
      simp [Work.weight, Work.upd, hw.1]
      omega
    · refine ⟨rfl, ?_⟩
      have := ha (w.s.identity (w.s.gu.get l).tags)
      have hd : (w.s.admission l (w.s.identity (w.s.gu.get l).tags) o).depth = w.s.depth := rfl
      simp [Work.weight, Work.upd, Work.after, hd, Task.weight]
      omega

theorem laneMode_costs (w : Work) (old new : DepotMode) (l : Lane) : Costs 4 w (w.laneMode old new l) := by
  have h := decideLane_costs w l
  unfold Work.laneMode
  split
  · split
    · exact ⟨(h _).1, by have := (h ‹Bool›).2; omega⟩
    · exact (Adds.refl 4 w).costs
  · split
    · exact ⟨(h _).1, by have := (h false).2; omega⟩
    · exact (Adds.refl 4 w).costs
  · exact (Adds.refl 4 w).costs

/-- What the blocks make of a change of mode (`modeWeight`). -/
theorem tellMode_costs (w : Work) (old new : DepotMode) : Costs modeWeight w (w.tellMode old new) := by
  have h1 := (laneMode_costs w old new .lane1).trans (laneMode_costs (w.laneMode old new .lane1) old new .lane2)
  have h2 : ∀ w : Work, Adds 7 w (w.withdrawCalls old new) := by
    intro w
    unfold Work.withdrawCalls
    split
    · exact withdrawAll_adds w
    · exact Adds.refl 7 w
  have h3 : ∀ w : Work, Adds 24 w w.restTests := fun w => Adds.fold restTestIfFree_adds Bay.all w
  have h4 : ∀ w : Work, Adds 4 w (w.openPass new) := by
    intro w
    unfold Work.openPass
    split
    · exact Adds.after w [.matchPass]
    · exact Adds.refl 4 w
  unfold Work.tellMode
  exact (((((h1.trans (h2 _).costs).trans (h3 _).costs).trans (h4 _).costs).trans (supplyMode_adds _ new).costs).trans
    (Adds.upd _ (by simp)).costs).mono (by decide)

/-- What REFILL can bring still. -/
def refillWeight (m : DepotMode) : Nat := if m = .refill then modeWeight else 0

theorem putMode_weight (s : State) (new : DepotMode) (origin : Option HoldOrigin) (h : new ≠ .refill) :
    (s.putMode new origin).weight + refillWeight s.mode = s.weight := by
  have hw := modLoop_weight s fun l => { l with mode := new, holdOrigin := origin }
  have h0 : (({ s.lm with mode := new, holdOrigin := origin } : Loop)).weight + refillWeight s.lm.mode = s.lm.weight := by
    simp only [Loop.weight, h, if_false]
    rfl
  have h1 : (s.putMode new origin).weight + s.lm.weight =
      s.weight + (({ s.lm with mode := new, holdOrigin := origin } : Loop)).weight := hw
  show (s.putMode new origin).weight + refillWeight s.lm.mode = s.weight
  omega

/-- A change to a mode other than REFILL brings no choice of a bay to refill. -/
theorem changeMode_costs (w : Work) (new : DepotMode) (origin : Option HoldOrigin) (c : ModeCause)
    (h : new ≠ .refill) :
    (w.changeMode new origin c).s.depth = w.s.depth ∧
      (w.changeMode new origin c).weight + refillWeight w.s.mode ≤ w.weight + modeWeight := by
  have hm := (tellMode_costs (w.upd (·.putMode new origin)) w.s.mode new).trans
    (Adds.upd ((w.upd (·.putMode new origin)).tellMode w.s.mode new)
      (f := (·.modeNotice w.s.mode c none none)) (modeNotice_gauge _ _ _ _ _)).costs
  have he : w.changeMode new origin c =
      ((w.upd (·.putMode new origin)).tellMode w.s.mode new).upd (·.modeNotice w.s.mode c none none) := by
    simp [Work.changeMode, h]
  rw [he]
  refine ⟨hm.1, ?_⟩
  have h2 := hm.2
  have h3 := putMode_weight w.s new origin h
  simp only [Work.weight, Work.upd] at h2 ⊢
  have hd : (w.s.putMode new origin).depth = w.s.depth := rfl
  simp only [hd] at h2
  omega

/-- The end of a running phase takes its weight, and brings two tests at the supply and what follows the phase. -/
theorem endPhase_costs (w : Work) (b : Bay) (c : PhaseCause) (abort : Bool) : Costs 3 w (w.endPhase b c abort) := by
  unfold Work.endPhase
  split
  · exact (Adds.refl 3 w).costs
  · next p hp =>
    dsimp only
    have h := (leaveSupply_adds w b).trans (Adds.upd _ (f := (·.dropDemand b)) (dropDemand_gauge _ b))
    have hpr : ((w.leaveSupply b).upd (·.dropDemand b)).s.pr = w.s.pr := by
      unfold Work.leaveSupply
      dsimp only
      split
      · exact toRunOn_pr _ _
      · rfl
    generalize (w.leaveSupply b).upd (·.dropDemand b) = v at h hpr
    have hc : (v.s.closePhase b p c).gauge = (v.s.modRunner b fun r => { r with plan := none }).gauge := by
      simp [State.closePhase]
    have hd : (v.s.closePhase b p c).depth = v.s.depth := congrArg Gauge.depth hc
    have hw := modRunner_weight v.s b fun r => { r with plan := none }
    rw [State.weight_gauge (v.s.modRunner _ _), ← hc, ← State.weight_gauge, hpr] at hw
    have hb : (w.s.pr.get b).weight v.s.depth = phaseWeight v.s.depth p.number := by
      simp [BayRunner.weight, show (w.s.pr.get b).plan = some p from hp]
    rw [hb] at hw
    refine ⟨(show (v.s.closePhase b p c).depth = _ from hd.trans h.costs.1), ?_⟩
    have h2 := h.2
    simp only [Work.weight, Work.upd, Work.after, hd, List.map_append, List.sum_append, List.map_cons, List.map_nil,
      List.sum_cons, List.sum_nil, Task.weight] at hw h2 ⊢
    have : BayRunner.weight v.s.depth ⟨none, (w.s.pr.get b).stray⟩ = 0 := rfl
    omega

theorem depth_le {s : State} {g : Prog} {p : Programme} (h : s.dt.programmes.get g = some p) :
    p.phases.length ≤ s.depth := by
  have hm : s.dt.programmes.get g ∈ s.dt.programmes.toList := by
    cases g <;> simp [Twelve.get, Twelve.toList]
  rw [h] at hm
  have hl : ∀ l : List (Option Programme), some p ∈ l →
      p.phases.length ≤ l.foldr (fun q d => max (q.elim 0 (·.phases.length)) d) 0 := by
    intro l
    induction l with
    | nil => simp
    | cons q l ih =>
      intro hq
      rcases List.mem_cons.mp hq with rfl | hq
      · exact Nat.le_max_left _ _
      · exact (ih hq).trans (Nat.le_max_right _ _)
  exact hl _ hm

/-- A phase that starts has its weight, and one that is WET brings its demand, answered at once or not. -/
theorem startPhase_costs (w : Work) (b : Bay) (n : Nat) :
    Costs (5 + phaseWeight w.s.depth n) w (w.startPhase b n) := by
  unfold Work.startPhase
  dsimp only
  split
  · next m _ _ hp =>
    split
    · exact ((washEnd_adds w b .mode).mono (by omega)).costs
    · split
      · exact (Adds.refl _ w).costs
      · split
        · exact ((washEnd_adds w b .complete).mono (by omega)).costs
        · next r _ =>
          have hr : ∀ q : BayRunner, q.weight w.s.depth = phaseWeight w.s.depth n →
              (w.s.modRunner b fun _ => q).weight = w.s.weight + phaseWeight w.s.depth n := by
            intro q hq
            have hw := modRunner_weight w.s b fun _ => q
            have h0 : (w.s.pr.get b).weight w.s.depth = 0 := by
              simp [BayRunner.weight, show (w.s.pr.get b).plan = none from hp]
            omega
          have hu : ∀ q : BayRunner, q.weight w.s.depth = phaseWeight w.s.depth n →
              Costs (phaseWeight w.s.depth n) w (w.upd (·.modRunner b fun _ => q)) := by
            intro q hq
            refine ⟨rfl, ?_⟩
            have := hr q hq
            have hd : (w.s.modRunner b fun _ => q).depth = w.s.depth := rfl
            simp only [Work.weight, Work.upd, hd]
            omega
          unfold Work.beginPhase
          dsimp only
          split
          · exact ((hu _ rfl).trans (demand_adds _ b).costs).mono (by omega)
          · exact (hu _ (by simp [BayRunner.weight]; rfl)).mono (by omega)
  · exact (Adds.refl _ w).costs

theorem holdTurbidity_adds (w : Work) : Adds 25 w w.holdTurbidity := by
  have hl : w.s.holdCh1.answers.length ≤ 6 := List.length_filterMap_le _ _
  refine ((Adds.upd w (f := fun s => s.holdCh1.dropAnswered s.holdCh1.answers) (by simp)).trans
    (Adds.after _ (if w.s.holdCh1.answers.isEmpty then [] else [.plans w.s.holdCh1.answers]))).mono ?_
  split
  · simp
  · simp [Task.weight]
    omega

/-- A purge start takes its weight, and brings the plans of the demands that waited on CH1. -/
theorem purgeTest_costs (w : Work) : Costs 0 w w.purgeTest := by
  unfold Work.purgeTest
  split
  · next h =>
    have hp : w.s.sa.purge.isNone = true := by
      have := h.2
      simp only [State.purgeReady, Bool.and_eq_true] at this
      exact this.2
    have hs := holdTurbidity_adds (w.upd (·.putPurge))
    have h3 : w.s.putPurge.weight + 25 = w.s.weight := by
      have hw := modArbiter_weight w.s fun a =>
        { a with purge := some ⟨nextCart w.s.settings.cartMask a.pointer, w.s.due w.s.settings.purgeDuration⟩ }
      have h0 : w.s.sa.weight = 25 := by simp [Arbiter.weight, hp]
      rw [h0] at hw
      exact hw
    refine ⟨hs.costs.1, ?_⟩
    have h2 := hs.2
    have hd : w.s.putPurge.depth = w.s.depth := rfl
    simp only [Work.weight, Work.upd, hd] at h2 ⊢
    exact h2.trans (by omega)
  · exact (Adds.refl 0 w).costs

/-- The entry to DRAIN takes the weight of a drain pending. -/
theorem enterDrain_costs (w : Work) (c : ModeCause) (h : w.s.lm.drainPending.isSome = true) :
    Costs 0 w (w.enterDrain c) := by
  have hw : (w.s.dropDrain.modLoop fun l => { l with persist := none }).weight + drainCutsWeight 6 = w.s.weight := by
    have hw := modLoop_weight w.s fun l => { l with drainPending := none, deferral := none, persist := none }
    have h0 : w.s.lm.weight = drainCutsWeight 6 + refillWeight w.s.lm.mode := by
      simp only [Loop.weight, h, if_true]
      rfl
    have h1 : (({ w.s.lm with drainPending := none, deferral := none, persist := none } : Loop)).weight =
        0 + refillWeight w.s.lm.mode := rfl
    rw [h0] at hw
    have h2 : (w.s.modLoop fun l => { l with drainPending := none, deferral := none, persist := none }).weight +
        (drainCutsWeight 6 + refillWeight w.s.lm.mode) = w.s.weight + (0 + refillWeight w.s.lm.mode) := hw
    show (w.s.modLoop fun l => { l with drainPending := none, deferral := none, persist := none }).weight + _ = _
    omega
  have hd : (w.s.dropDrain.modLoop fun l => { l with persist := none }).depth = w.s.depth := rfl
  refine ⟨rfl, ?_⟩
  simp only [Work.enterDrain, Work.weight, Work.upd, Work.after, hd, List.map_append, List.sum_append, List.map_cons,
    List.map_nil, List.sum_cons, List.sum_nil, Task.weight]
  have : drainCutsWeight Bay.all.length = drainCutsWeight 6 := rfl
  omega

theorem cancelAll_adds (w : Work) : Adds 3 w w.cancelAll := by
  unfold Work.cancelAll
  dsimp only
  refine ((Adds.silent w fun v => (Adds.fold (fun w n => cancel_adds w n .mode) _ v).1).trans (Adds.after _ _)).mono ?_
  split <;> simp [Task.weight]

theorem drainBay_adds (w : Work) (b : Bay) : Adds 4 w (w.drainBay b) := by
  unfold Work.drainBay
  split
  · exact (Adds.upd w (by simp)).trans (restTestIfFree_adds _ b)
  · exact Adds.refl 4 w

/-- Steps 2 to 6 of the entry to DRAIN: the cancellations, six bays, and what a change of mode brings. -/
theorem drainRest_costs (w : Work) (cut : Nat) (c : ModeCause) : Costs (27 + modeWeight) w (w.drainRest cut c) := by
  have h1 : Costs 0 w (w.upd (·.putMode .drain none)) := by
    have := putMode_weight w.s .drain none (by decide)
    have hd : (w.s.putMode .drain none).depth = w.s.depth := rfl
    refine ⟨rfl, ?_⟩
    simp only [Work.weight, Work.upd, hd]
    omega
  have h2 := (cancelAll_adds (w.upd (·.putMode .drain none))).trans
    (Adds.fold drainBay_adds Bay.all (w.upd (·.putMode .drain none)).cancelAll)
  unfold Work.drainRest
  exact ((h1.trans h2.costs).trans ((tellMode_costs _ w.s.mode .drain).trans
    (Adds.upd _ (f := (·.modeNotice w.s.mode c (some w.s.vLines) (some cut))) (by simp)).costs)).mono (by decide)

theorem refillChoice_costs (w : Work) : Costs 0 w w.refillChoice := by
  unfold Work.refillChoice
  split
  · exact (Adds.refl 0 w).costs
  · next h =>
    have hm : w.s.mode = .refill := by simpa using h
    split
    · exact (Adds.upd w (by simp)).costs
    · split
      · split
        · have := changeMode_costs w .hold (some .drain) .refillDone (by decide)
          rw [hm] at this
          exact ⟨this.1, by have := this.2; simp only [refillWeight, if_pos] at this; omega⟩
        · have := changeMode_costs w .opened none .refillDone (by decide)
          rw [hm] at this
          exact ⟨this.1, by have := this.2; simp only [refillWeight, if_pos] at this; omega⟩
      · exact (Adds.refl 0 w).costs

theorem airReading_costs (w : Work) : Costs modeWeight w w.airReading := by
  have hf : ∀ v, Costs modeWeight w (w.frostHold v) := by
    intro v
    unfold Work.frostHold
    have hr : Costs modeWeight w w := (Adds.refl _ w).costs
    have hc : ∀ new o, new ≠ .refill → Costs modeWeight w (w.changeMode new o .frost) := by
      intro new o h
      have := changeMode_costs w new o .frost h
      exact ⟨this.1, by have := this.2; omega⟩
    split
    · split
      · split
        · exact hc _ _ (by decide)
        · exact hr
      · split
        · exact hc _ _ (by decide)
        · exact hr
    · exact hr
  unfold Work.airReading
  exact (hf _).trans (Adds.upd _ (by simp)).costs

/-! ## Each consequence makes the work lighter -/

/-- What a consequence brings weighs less than the consequence. -/
theorem handle_lighter (s : State) (t : Task) :
    ((Work.mk s []).handle t).s.depth = s.depth ∧
      ((Work.mk s []).handle t).weight < s.weight + t.weight s.depth := by
  have h0 : (Work.mk s []).weight = s.weight := by simp [Work.weight]
  have of : ∀ {k : Nat} {v : Work}, Costs k ⟨s, []⟩ v → k < t.weight s.depth →
      v.s.depth = s.depth ∧ v.weight < s.weight + t.weight s.depth :=
    fun h hk => ⟨h.1, by have := h.2; omega⟩
  cases t with
  | matchPass => exact of (matchPass_adds _).costs (by simp [Task.weight])
  | capacity =>
    refine of (Adds.after _ _).costs ?_
    unfold State.waitingLanes
    split
    · split <;> simp [Task.weight]
    · simp [Task.weight]
    · simp [Task.weight]
    · simp [Task.weight]
  | retry l =>
    show (Work.retry _ l).s.depth = _ ∧ (Work.retry _ l).weight < _
    unfold Work.retry
    split
    · next since mark h =>
      have := decideLane_costs ⟨s, []⟩ l mark
      have hw : (s.gu.get l).weight = 4 := by
        unfold LaneRecord.weight
        rw [h]
      refine of (k := 0) ⟨this.1, ?_⟩ (by simp [Task.weight])
      have := this.2
      simp only [hw] at this
      omega
    · exact of (Adds.refl 0 _).costs (by simp [Task.weight])
  | grantPass => exact of (Adds.upd _ (by simp)).costs (by simp [Task.weight])
  | purgeTest => exact of (purgeTest_costs _) (by simp [Task.weight])
  | plans answers =>
    exact of (Adds.fold (fun w (a : Bay × ReadingsUsed) => takePlan_adds w a.1 a.2) answers _).costs
      (by simp [Task.weight])
  | startPhase b n => exact of (startPhase_costs _ b n) (by simp [Task.weight])
  | endPhase b c abort => exact of (endPhase_costs _ b c abort) (by simp [Task.weight])
  | follow b v n c abort =>
    have h1 : 1 < 1 + phaseWeight s.depth n := by simp [phaseWeight]
    show (Work.follow _ b v n c abort).s.depth = _ ∧ (Work.follow _ b v n c abort).weight < _
    unfold Work.follow
    split
    · exact of (Adds.refl 0 _).costs (by simp [Task.weight])
    · exact of (Adds.refl 0 _).costs (by simp [Task.weight])
    · exact of (Adds.refl 0 _).costs (by simp [Task.weight])
    · exact of (washEnd_adds _ b .mode).costs h1
    · exact of ((Adds.upd _ (by simp)).trans (washEnd_adds _ b .fault)).costs h1
    · split
      · next h =>
        refine of (Adds.after _ [.startPhase b (n + 1)]).costs ?_
        have hn : n < s.depth := by
          simp only [Bool.and_eq_true, decide_eq_true_eq, State.phaseCount] at h
          obtain ⟨_, h⟩ := h
          split at h
          · next p hp =>
            obtain ⟨v, _, hv⟩ := Option.bind_eq_some_iff.mp hp
            exact lt_of_lt_of_le h (depth_le hv)
          · omega
        simp [Task.weight, phaseWeight]
        omega
      · exact of (washEnd_adds _ b .complete).costs h1
  | drainCheck =>
    show (Work.drainCheck _).s.depth = _ ∧ (Work.drainCheck _).weight < _
    unfold Work.drainCheck
    split
    · next c hc =>
      split
      · exact of (Adds.refl 0 _).costs (by simp [Task.weight])
      · exact of (enterDrain_costs _ c (by rw [hc]; rfl)) (by simp [Task.weight])
    · exact of (Adds.refl 0 _).costs (by simp [Task.weight])
  | drainCuts rest cut c =>
    cases rest with
    | nil => exact of (Adds.after _ [.drainRest cut c]).costs (by simp [Task.weight, drainCutsWeight])
    | cons b rest =>
      show (Work.drainCuts _ (b :: rest) cut c).s.depth = _ ∧ (Work.drainCuts _ (b :: rest) cut c).weight < _
      unfold Work.drainCuts
      dsimp only
      split
      · refine of ((endPhase_costs _ b .cutMode false).trans (Adds.after _ [.drainCuts rest (cut + 1) c]).costs) ?_
        simp [Task.weight, drainCutsWeight]
        omega
      · refine of (Adds.after _ [.drainCuts rest cut c]).costs ?_
        simp [Task.weight, drainCutsWeight]
  | drainRest cut c => exact of (drainRest_costs _ cut c) (by simp [Task.weight, drainRestWeight])
  | refillChoice => exact of (refillChoice_costs _) (by simp [Task.weight])
  | chooseNext d => exact of (Adds.upd _ (by simp)).costs (by simp [Task.weight])
  | ch5 => exact of (airReading_costs _) (by simp [Task.weight])

theorem Work.next_lighter (s : State) (t : Task) (rest : List Task) :
    (Work.next ⟨s, t :: rest⟩).weight < (Work.mk s (t :: rest)).weight := by
  have h := handle_lighter s t
  have h2 := h.2
  have hd := h.1
  simp only [Work.next, Work.weight, hd, List.map_append, List.sum_append, List.map_cons, List.sum_cons] at h2 ⊢
  omega

/-- As many consequences as the work weighs are all that it brings: every command comes to rest. -/
theorem Work.run_weight (k : Nat) (w : Work) (h : w.weight ≤ k) : (w.run k).todo = [] := by
  induction k generalizing w with
  | zero =>
    obtain ⟨s, todo⟩ := w
    cases todo with
    | nil => rfl
    | cons t rest =>
      have := Work.next_lighter s t rest
      omega
  | succ k ih =>
    obtain ⟨s, todo⟩ := w
    cases todo with
    | nil => rfl
    | cons t rest =>
      have := Work.next_lighter s t rest
      exact ih _ (by omega)

end Sys2Proof.Machine
end

