-- ==== Sys2Proof/Laws/Settle.lean ====
section
/-!
SUPPORT. What a command comes to: an operation without consequences answers at once, consequences are taken one by one,
and a request taken at once is carried out and answered.
-/

namespace Sys2Proof.Machine

open Sys2Proof

/-! ## Running consequences -/

@[simp] theorem Work.run_done (k : Nat) (s : State) : Work.run k ⟨s, []⟩ = ⟨s, []⟩ := by
  cases k <;> rfl

theorem Work.run_succ (k : Nat) (s : State) (t : Task) (rest : List Task) :
    Work.run (k + 1) ⟨s, t :: rest⟩ = Work.run k (Work.next ⟨s, t :: rest⟩) := rfl

theorem Work.next_cons (s : State) (t : Task) (rest : List Task) :
    Work.next ⟨s, t :: rest⟩ = ⟨((Work.mk s []).handle t).s, ((Work.mk s []).handle t).todo ++ rest⟩ := rfl

/-- A run of j + k consequences is a run of j, then of k. -/
theorem Work.run_add (j k : Nat) (w : Work) : Work.run (j + k) w = Work.run k (Work.run j w) := by
  induction j generalizing w with
  | zero => simp [Work.run]
  | succ j ih =>
    obtain ⟨s, todo⟩ := w
    cases todo with
    | nil => simp
    | cons t rest => rw [Nat.succ_add, Work.run_succ, ih, Work.run_succ]

/-- A command ends with no consequence left. -/
theorem Work.run_settle (w : Work) : w.run w.weight = ⟨w.settle, []⟩ := by
  have := Work.run_weight w.weight w (le_refl _)
  generalize hv : w.run w.weight = v at this
  obtain ⟨s, todo⟩ := v
  simp_all [Work.settle]

/-- Consequences that come to rest come to rest where the command ends. -/
theorem Work.settle_of_run {w : Work} {k : Nat} {t : State} (h : Work.run k w = ⟨t, []⟩) : w.settle = t := by
  have h1 : Work.run (k + w.weight) w = ⟨t, []⟩ := by rw [Work.run_add, h, Work.run_done]
  rw [Nat.add_comm, Work.run_add, Work.run_settle, Work.run_done] at h1
  exact congrArg Work.s h1

@[simp] theorem Work.settle_done (s : State) : (Work.mk s []).settle = s := Work.settle_of_run (k := 0) rfl

/-- The first consequence is taken, then the rest. -/
theorem Work.settle_next (s : State) (t : Task) (rest : List Task) :
    (Work.mk s (t :: rest)).settle = (Work.next ⟨s, t :: rest⟩).settle := by
  exact Work.settle_of_run (k := _ + 1) ((Work.run_succ _ s t rest).trans (Work.run_settle _))

/-- A command that is one operation on the state answers the state it leaves. -/
@[simp] theorem run_upd (s : State) (f : State → State) : Machine.run s (·.upd f) = .next (f s) :=
  congrArg Host.Outcome.next (Work.settle_done _)

theorem run_of_done {s t : State} {f : Work → Work} (h : f ⟨s, []⟩ = ⟨t, []⟩) : Machine.run s f = .next t := by
  simp [Machine.run, h]

@[simp] theorem onExpiry_none (s : State) (f : Work → Work) : onExpiry s none f = .next s := rfl

@[simp] theorem onExpiry_some (s : State) (t : Nat) (f : Work → Work) :
    onExpiry s (some t) f = Machine.run (s.reach t) f := rfl

/-- A step takes the front of the queue. -/
theorem step_cons {s : State} {c : Instr} {rest : List Instr} (h : s.pending = c :: rest) :
    step s = exec c { s with pending := rest } := by
  simp [step, h]

/-- What comes to rest alone comes to rest before anything that waits behind it. -/
theorem Work.run_append {k : Nat} {s t : State} {ts rest : List Task} (h : Work.run k ⟨s, ts⟩ = ⟨t, []⟩) :
    ∃ j, j ≤ k ∧ Work.run j ⟨s, ts ++ rest⟩ = ⟨t, rest⟩ := by
  induction k generalizing s ts with
  | zero =>
    cases ts with
    | nil => exact ⟨0, le_refl 0, by simp_all [Work.run]⟩
    | cons a l => simp [Work.run] at h
  | succ k ih =>
    cases ts with
    | nil => exact ⟨0, Nat.zero_le _, by simp_all [Work.run]⟩
    | cons a l =>
      rw [Work.run_succ, Work.next_cons] at h
      obtain ⟨j, hj, hr⟩ := ih h
      exact ⟨j + 1, by omega, by simpa [Work.run_succ, Work.next_cons] using hr⟩

/-- What comes first is settled before the rest. -/
theorem Work.settle_append (s : State) (ts rest : List Task) :
    (Work.mk s (ts ++ rest)).settle = (Work.mk (Work.mk s ts).settle rest).settle := by
  obtain ⟨j, _, hj⟩ := Work.run_append (rest := rest) (Work.run_settle ⟨s, ts⟩)
  refine Work.settle_of_run (k := j + (Work.mk (Work.mk s ts).settle rest).weight) ?_
  rw [Work.run_add, hj, Work.run_settle]

/-! ## Consequences that bring nothing -/

@[simp] theorem Work.handle_capacity_calm (s : State) (h : s.waitingLanes = []) :
    (Work.mk s []).handle .capacity = ⟨s, []⟩ := by
  simp [Work.handle, Work.capacity, h]

@[simp] theorem Work.handle_matchPass_empty (s : State) (h : s.vq.queue = []) :
    (Work.mk s []).handle .matchPass = ⟨s, []⟩ := by
  simp [Work.handle, Work.matchPass, h]

theorem Work.handle_grantPass (s : State) : (Work.mk s []).handle .grantPass = ⟨s.grantOne.grantOne, []⟩ := rfl

@[simp] theorem Work.handle_purgeTest_calm (s : State) (h : s.purgeReady = false) :
    (Work.mk s []).handle .purgeTest = ⟨s, []⟩ := by
  simp [Work.handle, Work.purgeTest, h]

theorem grantOne_noRequest {s : State} (h : s.firstRequest = none) : s.grantOne = s := by
  unfold State.grantOne
  split
  · simp_all
  · rfl

theorem grantOne_notAllowed {s : State} (h : s.grantsAllowed = false) : s.grantOne = s := by
  unfold State.grantOne
  split
  · simp_all
  · rfl

/-! ## Requests -/

@[simp] theorem Link.pump_holding (l : Link) : l.pump.holding = l.holding := by
  unfold Link.pump
  split <;> rfl

@[simp] theorem Link.pushReply_holding (l : Link) (r : Reply) : (l.pushReply r).holding = l.holding := rfl

@[simp] theorem Link.pushNotice_holding (l : Link) (n : Notice) : (l.pushNotice n).holding = l.holding := by
  unfold Link.pushNotice
  split <;> rfl

/-- With nothing held there is nothing to hand on. -/
theorem State.handover_none {s : State} (h : s.lp.holding = []) : s.handover = s := by
  simp [State.handover, h, State.handOn]

/-- The state in which the owner finds a request that was taken at once: it stands in the holding list. -/
def State.holdingOne (s : State) (tag : Byte) (r : Request) : State :=
  s.modLink fun l => { l with holding := [⟨tag, r⟩] }

/-- A request taken at once: it is carried out, with nothing else held. -/
theorem offer_now {s : State} {tag : Byte} {r : Request} (hh : s.lp.holding = []) (hr : s.lp.replies.length < 8) :
    s.offer tag r = (s.holdingOne tag r).carryOut ⟨tag, r⟩ := by
  have h1 : (s.modLink fun l => { l with holding := l.holding ++ [⟨tag, r⟩] }) = s.holdingOne tag r := by
    simp [State.holdingOne, State.modLink, hh]
  have h2 : (s.holdingOne tag r).lp.replies.length < 8 := hr
  simp only [State.offer, hh, List.length_nil, Nat.zero_lt_succ, if_true, h1, State.handover]
  simp [State.holdingOne, State.handOn] at h2 ⊢
  simp [h2]

/-- A request taken at once whose owner's consequences come to rest: its reply, formed after them, is queued on the
state they leave, the holding list empty again. -/
theorem request_settled {s v : State} {a : Answered} {tag : Byte} {r : Request} {k : Nat} (hh : s.lp.holding = [])
    (hr : s.lp.replies.length < 8) (ho : (Work.mk (s.holdingOne tag r) []).owner r = a)
    (hk : Work.run k a.1 = ⟨v, []⟩) (hv : v.lp.holding = [⟨tag, r⟩]) :
    s.offer tag r =
      (v.modLink fun l => { l with holding := [] }).answer
        ⟨r.replyKind, tag, (v.formReply a.2).1, (v.formReply a.2).2⟩ := by
  rw [offer_now hh hr]
  simp only [State.carryOut, ho, Work.settle_of_run hk]
  simp [State.modLink, hv]

/-- A request taken at once whose owner brings no consequence. -/
theorem request_plain {s u : State} {tag : Byte} {r : Request} {f : ReplyForm} (hh : s.lp.holding = [])
    (hr : s.lp.replies.length < 8)
    (ho : (Work.mk (s.holdingOne tag r) []).owner r = (⟨u, []⟩, f)) (hu : u.lp.holding = [⟨tag, r⟩]) :
    s.offer tag r =
      (u.modLink fun l => { l with holding := [] }).answer
        ⟨r.replyKind, tag, (u.formReply f).1, (u.formReply f).2⟩ :=
  request_settled (k := 0) hh hr ho rfl hu

end Sys2Proof.Machine
end

