-- ==== Sys2Proof/Laws/Tables.lean ====
section
/-!
SUPPORT. The keyed tables: what look-up gives after each change, and that each change keeps the canonical form.
-/

namespace Sys2Proof.Machine

open Sys2Proof

variable {α : Type}

@[simp] theorem Table.look_put_same (t : Table α) (k : Nat) (v : α) : Table.look (Table.put t k v) k = some v := by
  induction t with
  | nil => simp [Table.put, Table.look]
  | cons e rest ih =>
    obtain ⟨j, u⟩ := e
    unfold Table.put
    split
    · simp [Table.look]
    · split
      · simp [Table.look]
      · have : j ≠ k := by omega
        simp [Table.look, this, ih]

theorem Table.look_put_ne (t : Table α) (k m : Nat) (v : α) (h : m ≠ k) :
    Table.look (Table.put t k v) m = Table.look t m := by
  induction t with
  | nil => simp [Table.put, Table.look, Ne.symm h]
  | cons e rest ih =>
    obtain ⟨j, u⟩ := e
    unfold Table.put
    split
    · simp [Table.look, Ne.symm h]
    · split
      · subst_vars
        simp [Table.look, Ne.symm h]
      · simp [Table.look, ih]

theorem Table.look_del_ne (t : Table α) (k m : Nat) (h : m ≠ k) : Table.look (Table.del t k) m = Table.look t m := by
  induction t with
  | nil => rfl
  | cons e rest ih =>
    obtain ⟨j, u⟩ := e
    unfold Table.del
    split
    · subst_vars
      simp [Table.look, Ne.symm h]
    · simp [Table.look, ih]

theorem Table.look_upd (t : Table α) (k m : Nat) (f : α → α) :
    Table.look (Table.upd t k f) m = if m = k then (Table.look t m).map f else Table.look t m := by
  induction t with
  | nil => simp [Table.upd, Table.look]
  | cons e rest ih =>
    obtain ⟨j, u⟩ := e
    unfold Table.upd
    split
    · subst_vars
      by_cases hm : m = j
      · subst hm
        simp [Table.look]
      · simp [Table.look, hm, Ne.symm hm]
    · by_cases hm : m = k
      · subst hm
        simp_all [Table.look]
      · simp_all [Table.look]

/-- The canonical form said with the keys: strictly rising. -/
theorem Table.wf_iff (t : Table α) : Table.wf t = true ↔ (t.map (·.1)).Pairwise (· < ·) := by
  induction t with
  | nil => simp [Table.wf]
  | cons e rest ih =>
    cases rest with
    | nil => simp [Table.wf]
    | cons e' rest =>
      obtain ⟨j, u⟩ := e
      obtain ⟨k, v⟩ := e'
      rw [Table.wf, Bool.and_eq_true, decide_eq_true_eq, ih]
      simp only [List.map_cons, List.pairwise_cons]
      constructor
      · rintro ⟨hjk, hk, hr⟩
        refine ⟨?_, hk, hr⟩
        intro a ha
        rcases List.mem_cons.mp ha with rfl | ha
        · exact hjk
        · exact lt_trans hjk (hk a ha)
      · rintro ⟨hj, hk, hr⟩
        exact ⟨hj k (by simp), hk, hr⟩

theorem Table.keys_upd (t : Table α) (k : Nat) (f : α → α) : (Table.upd t k f).map (·.1) = t.map (·.1) := by
  induction t with
  | nil => rfl
  | cons e rest ih =>
    obtain ⟨j, u⟩ := e
    unfold Table.upd
    split <;> simp [ih]

theorem Table.keys_del (t : Table α) (k : Nat) : (Table.del t k).Sublist t := by
  induction t with
  | nil => exact List.Sublist.refl _
  | cons e rest ih =>
    obtain ⟨j, u⟩ := e
    unfold Table.del
    split
    · exact List.sublist_cons_self _ _
    · exact ih.cons_cons _

theorem Table.mem_keys_put (t : Table α) (k m : Nat) (v : α) :
    m ∈ (Table.put t k v).map (·.1) → m = k ∨ m ∈ t.map (·.1) := by
  induction t with
  | nil => simp [Table.put]
  | cons e rest ih =>
    obtain ⟨j, u⟩ := e
    unfold Table.put
    split
    · simp
    · split
      · subst_vars
        simp
      · intro h
        rcases List.mem_cons.mp h with rfl | h
        · simp
        · rcases ih h with h | h
          · exact Or.inl h
          · exact Or.inr (List.mem_cons_of_mem _ h)

theorem Table.wf_put (t : Table α) (k : Nat) (v : α) (h : Table.wf t = true) : Table.wf (Table.put t k v) = true := by
  rw [Table.wf_iff] at h ⊢
  induction t with
  | nil => simp [Table.put]
  | cons e rest ih =>
    obtain ⟨j, u⟩ := e
    simp only [List.map_cons, List.pairwise_cons] at h
    unfold Table.put
    split
    · simp only [List.map_cons, List.pairwise_cons]
      refine ⟨?_, h⟩
      intro a ha
      rcases List.mem_cons.mp ha with rfl | ha
      · assumption
      · exact lt_trans ‹_› (h.1 a ha)
    · split
      · subst_vars
        simp only [List.map_cons, List.pairwise_cons]
        exact h
      · simp only [List.map_cons, List.pairwise_cons]
        refine ⟨?_, ih h.2⟩
        intro a ha
        rcases Table.mem_keys_put rest k a v ha with rfl | ha
        · omega
        · exact h.1 a ha

theorem Table.wf_upd (t : Table α) (k : Nat) (f : α → α) (h : Table.wf t = true) : Table.wf (Table.upd t k f) = true := by
  rw [Table.wf_iff] at h ⊢
  rwa [Table.keys_upd]

theorem Table.wf_of_sublist {t u : Table α} (hs : u.Sublist t) (h : Table.wf t = true) : Table.wf u = true := by
  rw [Table.wf_iff] at h ⊢
  exact h.sublist (hs.map _)

theorem Table.wf_del (t : Table α) (k : Nat) (h : Table.wf t = true) : Table.wf (Table.del t k) = true :=
  Table.wf_of_sublist (Table.keys_del t k) h

/-- A change of the entries alone keeps the form. -/
theorem Table.wf_map (t : Table α) (f : Nat × α → Nat × α) (hf : ∀ e, (f e).1 = e.1) (h : Table.wf t = true) :
    Table.wf (t.map f) = true := by
  rw [Table.wf_iff] at h ⊢
  have : (t.map f).map (·.1) = t.map (·.1) := by simp [List.map_map, Function.comp_def, hf]
  rwa [this]

end Sys2Proof.Machine
end

