-- ==== Sys2Proof/Tests/Slice0.lean ====
section
/-!
SUPPORT. Tests: ill-formed commands refused, the manual's worked examples, and for every statement with hypotheses a
concrete state and operands that meet them.
-/

namespace Sys2Proof.Tests

open Sys2Proof Sys2Proof.Machine Sys2Proof.Safety

/-! ## Ill-formed commands: one for each check -/

theorem test_wf_putClass_cls : Instr.wf (.putClass 1 (.fields ⟨256, 8, 2, 80⟩)) = false := by decide
theorem test_wf_putClass_length : Instr.wf (.putClass 1 (.fields ⟨1, 256, 2, 80⟩)) = false := by decide
theorem test_wf_putClass_axles : Instr.wf (.putClass 1 (.fields ⟨1, 8, 256, 80⟩)) = false := by decide
theorem test_wf_putClass_factor : Instr.wf (.putClass 1 (.fields ⟨1, 8, 2, 65536⟩)) = false := by decide
theorem test_wf_putClass_good : Instr.wf (.putClass 1 (.fields ⟨1, 8, 2, 80⟩)) = true := by decide
theorem test_wf_putAccount : Instr.wf (.putAccount 1 (.fields ⟨65536, none, 1, 1, 0⟩)) = false := by decide
theorem test_wf_putAccount_tariff : Instr.wf (.putAccount 1 (.fields ⟨1, none, 256, 1, 0⟩)) = false := by decide
theorem test_wf_putAccount_programme : Instr.wf (.putAccount 1 (.fields ⟨1, none, 1, 256, 0⟩)) = false := by decide
theorem test_wf_putAccount_credit : Instr.wf (.putAccount 1 (.fields ⟨1, none, 1, 1, 4294967296⟩)) = false := by decide
theorem test_wf_dropAccount : Instr.wf (.dropAccount 1 (.fields 65536)) = false := by decide
theorem test_wf_putTag_tag : Instr.wf (.putTag 1 (.fields ⟨1099511627776, 1, none, 1⟩)) = false := by decide
theorem test_wf_putTag_account : Instr.wf (.putTag 1 (.fields ⟨1, 65536, none, 1⟩)) = false := by decide
theorem test_wf_putTag_cls : Instr.wf (.putTag 1 (.fields ⟨1, 1, none, 256⟩)) = false := by decide
theorem test_wf_dropTag : Instr.wf (.dropTag 1 (.fields 1099511627776)) = false := by decide

/-- A tariff body with every field in its width. -/
def tariffBody : PutTariff := ⟨1, Twelve.all 900, Twelve.all false, false, 450, 85, ⟨10, 1⟩, ⟨20, 3⟩, ⟨50, 6⟩⟩

theorem test_wf_putTariff_good : Instr.wf (.putTariff 1 (.fields tariffBody)) = true := by decide
theorem test_wf_putTariff_number : Instr.wf (.putTariff 1 (.fields { tariffBody with number := 256 })) = false := by decide
theorem test_wf_putTariff_price :
    Instr.wf (.putTariff 1 (.fields { tariffBody with prices := Twelve.all 16777216 })) = false := by decide
theorem test_wf_putTariff_axle :
    Instr.wf (.putTariff 1 (.fields { tariffBody with axleRate := 16777216 })) = false := by decide
theorem test_wf_putTariff_fresh :
    Instr.wf (.putTariff 1 (.fields { tariffBody with freshRate := 16777216 })) = false := by decide
theorem test_wf_putTariff_tier1 :
    Instr.wf (.putTariff 1 (.fields { tariffBody with tier1 := ⟨65536, 0⟩ })) = false := by decide
theorem test_wf_putTariff_tier2 :
    Instr.wf (.putTariff 1 (.fields { tariffBody with tier2 := ⟨0, 256⟩ })) = false := by decide
theorem test_wf_putTariff_tier3 :
    Instr.wf (.putTariff 1 (.fields { tariffBody with tier3 := ⟨65536, 256⟩ })) = false := by decide

/-- The DRY phase of the worked example of section 5.6, as a body. -/
def dryBody : PhaseBody :=
  ⟨some .dry, 0, 60, 2000, 25, 800, 100, 100, 30, 8, 20, 2, some .hybrid, 8, 10, some .note, some .note, some .note,
    some .note⟩

theorem test_wf_programme_good : Instr.wf (.putProgramme 1 (.fields ⟨1, 10, [dryBody]⟩)) = true := by decide
theorem test_wf_programme_number : Instr.wf (.putProgramme 1 (.fields ⟨256, 10, [dryBody]⟩)) = false := by decide
theorem test_wf_programme_fresh : Instr.wf (.putProgramme 1 (.fields ⟨1, 65536, [dryBody]⟩)) = false := by decide
theorem test_wf_programme_count :
    Instr.wf (.putProgramme 1 (.fields ⟨1, 10, List.replicate 10 dryBody⟩)) = false := by decide
theorem test_wf_phase_volume :
    Instr.wf (.putProgramme 1 (.fields ⟨1, 10, [{ dryBody with volume := 65536 }]⟩)) = false := by decide
theorem test_wf_phase_weight :
    Instr.wf (.putProgramme 1 (.fields ⟨1, 10, [{ dryBody with weight := 256 }]⟩)) = false := by decide
theorem test_wf_phase_delay :
    Instr.wf (.putProgramme 1 (.fields ⟨1, 10, [{ dryBody with nozzleDelay := 65536 }]⟩)) = false := by decide

/-- The default settings as a SET_DEPOT body. -/
def depotBody : SetDepot where
  casualAdmission := some false
  casualClass := 4
  axleMode := ⟨some .overlap, some .overlap⟩
  debounce := 16
  laneStall := 180
  maxSegments := ⟨24, 24, 24, 24, 12, 12⟩
  lineVolume := Six.all 120
  callTimeout := 180
  seatingSettle := 3
  grantTimeout := 5
  startLead := 4
  runOn := 60
  filterInterval := 3600
  purgeDuration := 120
  purgeVolume := 150
  cartMask := ⟨true, true, true, true⟩
  strayCarts := false
  leadMode := some .variable
  pitCapacity := 30000
  tankCapacity := 20000
  reserveFloor := 600
  lowMark := 3000
  highMark := 18000
  carryOff := 40
  allowanceThreshold := 4000
  autoFrost := some true
  holdThreshold := 2
  drainThreshold := -3
  persistTime := 1800
  deferralMax := 1200
  chargeHold := 12
  probeSettle := coldSettings.probeSettle
  probePeriod := coldSettings.probePeriod
  calLo := coldSettings.calLo
  calHi := coldSettings.calHi

theorem test_wf_depot_good : Instr.wf (.setDepot 1 (.fields depotBody)) = true := by decide
theorem test_wf_depot_debounce : Instr.wf (.setDepot 1 (.fields { depotBody with debounce := 256 })) = false := by decide
theorem test_wf_depot_segments :
    Instr.wf (.setDepot 1 (.fields { depotBody with maxSegments := Six.all 256 })) = false := by decide
theorem test_wf_depot_hold :
    Instr.wf (.setDepot 1 (.fields { depotBody with holdThreshold := 128 })) = false := by decide
theorem test_wf_depot_calibration :
    Instr.wf (.setDepot 1 (.fields { depotBody with calHi := Eight.all 8388608 })) = false := by decide
theorem test_depot_defaults : checkDepot 40000 depotBody = some coldSettings := by decide
theorem test_wf_setClock : Instr.wf (.setClock 1 (.fields ⟨65536, 0⟩)) = false := by decide
theorem test_wf_setClock_time : Instr.wf (.setClock 1 (.fields ⟨0, 16777216⟩)) = false := by decide
theorem test_wf_setAllowance : Instr.wf (.setAllowance 1 (.fields 16777216)) = false := by decide
theorem test_wf_bayService : Instr.wf (.bayService 1 (.fields ⟨256, none⟩)) = false := by decide
theorem test_wf_releaseBay : Instr.wf (.releaseBay 1 (.fields 256)) = false := by decide
theorem test_wf_assign_bay : Instr.wf (.assignBay 1 (.fields ⟨256, 0, 1, 1, []⟩)) = false := by decide
theorem test_wf_assign_account : Instr.wf (.assignBay 1 (.fields ⟨1, 65536, 1, 1, []⟩)) = false := by decide
theorem test_wf_assign_tag : Instr.wf (.assignBay 1 (.fields ⟨1, 0, 1, 1, [1099511627776]⟩)) = false := by decide
theorem test_wf_assign_count :
    Instr.wf (.assignBay 1 (.fields ⟨1, 0, 1, 1, List.replicate 47 1⟩)) = false := by decide
theorem test_wf_cancelVisit : Instr.wf (.cancelVisit 1 (.fields 65536)) = false := by decide
theorem test_wf_admitOverride : Instr.wf (.admitOverride 1 (.fields 256)) = false := by decide
theorem test_wf_settle_account : Instr.wf (.settleAccount 1 (.fields ⟨65536, 1⟩)) = false := by decide
theorem test_wf_settle_amount : Instr.wf (.settleAccount 1 (.fields ⟨1, 4294967296⟩)) = false := by decide
theorem test_wf_discharge : Instr.wf (.discharge 1 (.fields 65536)) = false := by decide
theorem test_wf_getVisit_number : Instr.wf (.getVisit 1 (.fields ⟨65536, 1⟩)) = false := by decide
theorem test_wf_getVisit_phase : Instr.wf (.getVisit 1 (.fields ⟨1, 256⟩)) = false := by decide
theorem test_wf_getBay : Instr.wf (.getBay 1 (.fields 256)) = false := by decide
theorem test_wf_getAccount : Instr.wf (.getAccount 1 (.fields 65536)) = false := by decide
theorem test_wf_getReading : Instr.wf (.getReading 1 (.fields 256)) = false := by decide
theorem test_wf_snapLane : Instr.wf (.snapLane 1 (.fields 256)) = false := by decide
theorem test_wf_takeCharges : Instr.wf (.takeCharges 1 (.fields 256)) = false := by decide
theorem test_wf_unknownKind : Instr.wf (.unknownKind 1 0x20) = false := by decide
theorem test_wf_unknownKind_good : Instr.wf (.unknownKind 1 0x40) = true := by decide
theorem test_wf_tagRead : Instr.wf (.tagRead .lane1 1099511627776) = false := by decide

/-! ## Decoding a frame, byte by byte -/

theorem test_decode_putClass : decodeFrame 0x01 7 [4, 17, 5, 0, 135] = .putClass 7 (.fields ⟨4, 17, 5, 135⟩) := by decide
theorem test_decode_putTag :
    decodeFrame 0x04 7 [0x00, 0xA1, 0xC0, 0xFF, 0x01, 0x02, 0x12, 1, 4] =
      .putTag 7 (.fields ⟨0xA1C0FF01, 530, some .powered, 4⟩) := by decide
theorem test_decode_discharge : decodeFrame 0x1B 7 [0x01, 0x2C] = .discharge 7 (.fields 300) := by decide
theorem test_decode_wrongLength : decodeFrame 0x1B 7 [0x01] = .discharge 7 .wrongLength := by decide
theorem test_decode_confirm : decodeFrame 0x31 7 [0, 0, 1, 2] = .confirmCharges 7 (.fields 258) := by decide
theorem test_decode_unknown : decodeFrame 0x40 7 [] = .unknownKind 7 0x40 := by decide
theorem test_scan_status :
    scanAll (envelope 0x20 9 []) = ([], [.frame 0x20 9 []]) := by decide +kernel
theorem test_scan_damaged : (scanAll [0xC3, 2, 0x20, 9, 0, 0]).2 = [.crcError] := by decide +kernel

/-! ## Worked examples of the manual -/

/-- The compensation of section 6.2: code 287 is 5,611, compensated at 34 degrees 4,756. -/
theorem test_compensation : calibrate 0 20000 287 = 5611 ∧ compensate 5611 34 = 4756 := by decide

/-- The WET phase of the plan of section 7.3. -/
def wetRecord : PhaseRecord where
  kind := .wet
  volume := 400
  timeLimit := 300
  condLimit := 2000
  turbLimit := 25
  cap := 800
  relax := 100
  weight := 20
  nozzleDelay := 5
  nozzleOn := 8
  nozzleFrame := 20
  framesPerSegment := 2
  sweepMode := .linear
  sweepGroup := 8
  startSegment := 0
  onStale := .note
  onClamp := .note
  onFresh := .note
  onFilter := .note

/-- C_r 4,756, T_r 38, C_f 420, T_f 1, none STALE or clamped. -/
def exampleReadings : ReadingsUsed :=
  ⟨⟨4756, false, false⟩, ⟨38, false, false⟩, ⟨420, false, false⟩, ⟨1, false, false⟩⟩

/-- With A of 200 L and ample recycled water: r 364, V' 313, Vf 200, Vr 113, SHORT. -/
theorem test_blend :
    (planPhase wetRecord exampleReadings 5000 200 0 0).figures = some ⟨364, 313, 200, 113⟩ ∧
      (planPhase wetRecord exampleReadings 5000 200 0 0).flags.short = true := by decide

/-- The DRY phase of the sweep of section 5.6, on a vehicle of 17 segments. -/
def dryRecord : PhaseRecord :=
  { wetRecord with
    kind := .dry, volume := 0, timeLimit := 60, weight := 100, nozzleDelay := 30, sweepMode := .hybrid, startSegment := 10 }

theorem test_sweep : sweepOrder dryRecord 17 = [10, 11, 12, 13, 14, 15, 8, 9, 16, 0, 1, 2, 3, 4, 5, 6, 7] := by decide

theorem test_sweep_wrap :
    sweepOrder { dryRecord with sweepMode := .wrap, sweepGroup := 4, startSegment := 14 } 17 = [14, 15, 12, 13] := by decide

theorem test_cold_start_is_reset : exec (.coldStart .quiet) State.reset = .next State.reset := by rfl


/-! ## States for the hypotheses of the statements -/

/-- A queued visit of account 530 with one tag. -/
def queuedVisit : Visit where
  lane := .lane .lane1
  day := 0
  time := 0
  tags := [77]
  account := some 530
  cls := .class4
  axles := none
  programme := .prog1
  permit := false
  noShow := 0
  state := .queued
  bay := none
  endCause := none
  results := []
  quality := noPhaseFlags
  other := noOtherFlags
  posted := none

/-- The DRY phase alone, as a programme. -/
def dryProgramme : Programme := ⟨10, [{ dryRecord with weight := 100 }]⟩

/-- A depot in OPEN with tariff 1, programme 1, account 530 (owing nothing), account 531 (owing 500) and tag 77, two lines
filled, and an idle transmitter. -/
def stocked : State :=
  { State.reset with
    now := 5000
    dt := { coldTables with
      accounts := [(530, ⟨.active, .tariff1, .prog1, 100000, 0, false, 3⟩), (531, ⟨.blocked, .tariff1, .prog1, 0, 500, true, 1⟩)]
      tags := [(77, ⟨530, .powered, .class4⟩)]
      tariffs := coldTables.tariffs.setTrf .tariff1
        (some ⟨Twelve.all 900, Twelve.all false, 450, 85, ⟨10, 1⟩, ⟨20, 3⟩, ⟨50, 6⟩⟩)
      programmes := coldTables.programmes.set .prog1 (some dryProgramme) }
    lm := { coldLoop with
      mode := .opened, vSet := 5000, vRec := 4000, v0 := 9240, heldLine := ⟨120, 120, 0, 0, 0, 0⟩ }
    bc := ⟨{ coldBay ⟨false, false⟩ with lineFilled := true, state := .stray },
      { coldBay ⟨false, false⟩ with lineFilled := true }, coldBay ⟨false, false⟩, coldBay ⟨false, false⟩,
      coldBay ⟨false, false⟩, coldBay ⟨false, false⟩⟩ }

/-- The same with visit 1 queued. -/
def queued : State :=
  { stocked with vq := ⟨[(1, queuedVisit)], [1], [], 1⟩, cu := { coldCharges with reservations := 1 } }

/-- Lane 1 in a state, on a given depot. -/
def laneIn (s : State) (x : LaneState) : State := { s with gu := s.gu.set .lane1 { s.gu.get .lane1 with state := x } }

/-- Bay 1 changed, on a given depot. -/
def bayWith (s : State) (f : BayRecord → BayRecord) : State := { s with bc := s.bc.set .bay1 (f (s.bc.get .bay1)) }

/-- Lane 1 changed, on a given depot. -/
def laneWith (s : State) (f : LaneRecord → LaneRecord) : State := { s with gu := s.gu.set .lane1 (f (s.gu.get .lane1)) }

/-- The loop changed, on a given depot. -/
def loopWith (s : State) (f : Loop → Loop) : State := { s with lm := f s.lm }

theorem stocked_ready : LinkReady stocked := ⟨rfl, by decide⟩
theorem queued_ready : LinkReady queued := ⟨rfl, by decide⟩
theorem stocked_noEmptyBay : NoEmptyBay stocked := by intro b; cases b <;> decide
theorem queued_noEmptyBay : NoEmptyBay queued := by intro b; cases b <;> decide

/-! ## Hypotheses that are met -/

theorem witness_idle : State.reset.pending = [] := by rfl

theorem witness_execKeepsTheQueue : ∃ t, exec (.debounceExpiry .lane1 .a) State.reset = .next t := ⟨_, rfl⟩

/-- A state with a command waiting, from which a step goes on. -/
def oneWaiting : State := { stocked with pending := [.tagRead .lane1 0] }

theorem witness_stepNext : ∃ t, step oneWaiting = .next t := ⟨_, rfl⟩

theorem witness_loopSound : LoopSound oneWaiting :=
  ⟨by unfold Safety.Balanced; decide, by intro b; cases b <;> decide, by unfold CarryOffFits; decide⟩

theorem witness_linkSound : LinkSound oneWaiting := ⟨by decide, by decide, by decide⟩

theorem witness_tablesSound : TablesSound oneWaiting := ⟨by decide, by decide, by decide⟩

theorem witness_lanesSound : LanesSound oneWaiting := by intro l; cases l <;> decide

theorem witness_supplySound : SupplySound oneWaiting := ⟨by decide, List.Perm.refl _⟩

theorem witness_receiverReadsEnvelope : (List.replicate 240 (7 : Byte)).length ≤ 240 :=
  List.length_replicate.le

theorem witness_unknownKind :
    LinkReady stocked ∧ requestKinds.contains (0x40 : Byte).toNat = false ∧ stocked.lp.rxBuf = [] :=
  ⟨stocked_ready, by decide, rfl⟩

theorem witness_badLength : LinkReady stocked ∧ (.getWater 9 .wrongLength, 0x24) ∈ wrongLengths 9 :=
  ⟨stocked_ready, by decide +kernel⟩

/-- A link with some requests held and some replies queued. -/
def loaded (held replies : Nat) : State :=
  { stocked with lp := { stocked.lp with
      holding := List.replicate held ⟨1, .getStatus (.fields ())⟩
      replies := List.replicate replies ⟨0xA0, 1, .busy, .none⟩ } }

theorem witness_fullHoldingList :
    asRequest (.getWater 3 (.fields ())) = some (3, .getWater (.fields ())) ∧
      (4 ≤ (loaded 4 7).lp.holding.length ∧ (loaded 4 7).lp.replies.length < 8) ∧
      (4 ≤ (loaded 4 8).lp.holding.length ∧ 8 ≤ (loaded 4 8).lp.replies.length) ∧
      ((loaded 3 8).lp.holding.length < 4 ∧ 8 ≤ (loaded 3 8).lp.replies.length) := by
  refine ⟨rfl, ?_, ?_, ?_⟩ <;> decide

/-- The transmitter idle. -/
def quiet : State := { stocked with lp := { stocked.lp with tx := none } }

theorem witness_linkRestart : (∃ f, stocked.lp.tx = some f) ∧ quiet.lp.tx = none := ⟨⟨_, rfl⟩, rfl⟩

theorem witness_lineErrors :
    stocked.lp.rxBuf = [] ∧ (2 ≤ (2 : Byte).toNat ∧ (2 : Byte).toNat ≤ 242 ∧ ([] : List Byte).length < (2 : Byte).toNat + 2) ∧
      (2 ≤ (242 : Byte).toNat ∧ (242 : Byte).toNat ≤ 242) ∧ (1 : Byte).toNat < 2 ∧ 242 < (243 : Byte).toNat := by
  refine ⟨rfl, ?_⟩; decide

theorem witness_transmitter :
    (∃ f, stocked.lp.tx = some f) ∧ stocked.lp.holding = [] ∧ stocked.lp.replies = [] ∧ stocked.lp.notices = [] ∧
      (loaded 0 7).lp.holding = [] ∧ (∃ r rest, (loaded 0 7).lp.replies = r :: rest) ∧
      ∃ n rest, ({ stocked.lp with notices := [.stray .bay1 true true false] } : Link).notices = n :: rest :=
  ⟨⟨_, rfl⟩, rfl, rfl, rfl, rfl, ⟨_, _, rfl⟩, ⟨_, _, rfl⟩⟩

theorem witness_warmRestart :
    (State.reset.lm.mode = .closed ∨ State.reset.lm.mode = .drain) ∧ State.reset.lm.drainPending = none ∧
      State.reset.vq.visits = [] ∧ State.reset.vq.queue = [] ∧ State.reset.vq.called = [] ∧
      State.reset.cu.pendingSummary = none ∧ State.reset.cu.posting = [] ∧
      ∀ b : Bay, State.reset.plan? b = none ∧ (State.reset.bc.get b).held = none ∧
        (State.reset.bc.get b).service ≠ .outPending := by
  refine ⟨Or.inl rfl, rfl, rfl, rfl, rfl, rfl, rfl, fun b => ?_⟩
  cases b <;> decide

/-! ### Tables -/

/-- The Account Table full, with the other tables of `stocked`. -/
def fullAccounts : State :=
  { stocked with dt := { stocked.dt with
      accounts := (List.range 256).map fun n => (n + 1, ⟨.active, .tariff1, .prog1, 0, 0, false, 0⟩) } }

theorem witness_accountPut :
    LinkReady stocked ∧ Trf.ofNat? 1 = some .tariff1 ∧ Trf.ofNat? 2 = some .tariff2 ∧ Prog.ofNat? 1 = some .prog1 ∧
      stocked.dt.tariffs.getTrf .tariff2 = none ∧ stocked.dt.tariffs.getTrf .tariff1 ≠ none ∧
      stocked.dt.programmes.get .prog1 ≠ none ∧
      (Table.look stocked.dt.accounts 65535 = none ∧ stocked.dt.accounts.length < 256) ∧
      (∃ a, Table.look stocked.dt.accounts 531 = some a) :=
  ⟨stocked_ready, rfl, rfl, rfl, rfl, by decide, by decide, by decide, ⟨_, rfl⟩⟩

theorem witness_accountPut_full :
    LinkReady fullAccounts ∧ fullAccounts.dt.tariffs.getTrf .tariff1 ≠ none ∧
      fullAccounts.dt.programmes.get .prog1 ≠ none ∧
      Table.look fullAccounts.dt.accounts 530 = none ∧ 256 ≤ fullAccounts.dt.accounts.length :=
  ⟨⟨rfl, by decide⟩, by decide, by decide, by decide +kernel, by decide +kernel⟩

theorem witness_accountDropped :
    (LinkReady stocked ∧ Table.look stocked.dt.accounts 530 = some ⟨.active, .tariff1, .prog1, 100000, 0, false, 3⟩ ∧
      ∀ e ∈ stocked.vq.visits, e.2.account ≠ some 530) ∧
    (LinkReady queued ∧ Table.look queued.dt.accounts 530 = some ⟨.active, .tariff1, .prog1, 100000, 0, false, 3⟩ ∧
      ∃ e ∈ queued.vq.visits, e.2.account = some 530) ∧
    (∃ a, Table.look stocked.dt.accounts 531 = some a ∧ 0 < a.balance) := by
  refine ⟨⟨stocked_ready, rfl, by decide⟩, ⟨queued_ready, rfl, by decide⟩, ⟨_, rfl, by decide⟩⟩

/-- The Tag Table full. -/
def fullTags : State :=
  { stocked with dt := { stocked.dt with tags := (List.range 1024).map fun n => (n + 1, ⟨530, .powered, .class1⟩) } }

theorem witness_tags :
    LinkReady stocked ∧ Cls.ofNat? 4 = some .class4 ∧ Table.look stocked.dt.accounts 9 = none ∧
      Table.look stocked.dt.accounts 530 ≠ none ∧ Table.look stocked.dt.tags 77 ≠ none ∧
      Table.look stocked.dt.tags 78 = none ∧ stocked.dt.tags.length < 1024 :=
  ⟨stocked_ready, rfl, rfl, by decide, by decide, rfl, by decide⟩

theorem witness_tags_full :
    LinkReady fullTags ∧ Table.look fullTags.dt.accounts 530 ≠ none ∧ Table.look fullTags.dt.tags 1025 = none ∧
      1024 ≤ fullTags.dt.tags.length :=
  ⟨⟨rfl, by decide⟩, by decide, by decide +kernel, by decide +kernel⟩

theorem dryBody_inRange : PhaseInRange dryBody := by unfold PhaseInRange dryBody; decide

theorem witness_programmePut :
    LinkReady stocked ∧ Prog.ofNat? 0 = none ∧ 8 < (List.replicate 9 dryBody).length ∧ 20000 < 20001 ∧
      ((([dryBody, dryBody] : List PhaseBody).map (·.weight)).sum ≠ 100) ∧
      ¬ PhaseInRange { dryBody with volume := 10 } ∧
      (Prog.ofNat? 12 = some .prog12 ∧ (([dryBody] : List PhaseBody).map (·.weight)).sum = 100 ∧
        ∀ x ∈ [dryBody], PhaseInRange x) :=
  ⟨stocked_ready, rfl, by decide, by decide, by decide, by unfold PhaseInRange dryBody; decide, rfl, by decide, by
    intro x hx
    rw [List.mem_singleton.mp hx]
    exact dryBody_inRange⟩

theorem witness_tariffPut :
    LinkReady stocked ∧ Trf.ofNat? 0 = some .tariff0 ∧ Trf.ofNat? 7 = some .tariff7 ∧
      (∀ p : Prog, tariffBody.prices.get p ≤ 1000000) ∧ tariffBody.strayBits = false ∧ tariffBody.axleRate ≤ 100000 ∧
      tariffBody.freshRate ≤ 100000 ∧
      (∀ p : Prog, (Twelve.set (Twelve.all false) .prog1 true).get p = true → stocked.dt.programmes.get p ≠ none) ∧
      tariffBody.tier1.threshold < tariffBody.tier2.threshold ∧ tariffBody.tier2.threshold < tariffBody.tier3.threshold ∧
      ({ tariffBody with tier2 := ⟨10, 1⟩ } : PutTariff).tier2.threshold ≤ tariffBody.tier1.threshold := by
  refine ⟨stocked_ready, rfl, rfl, fun p => ?_, rfl, by decide, by decide, fun p => ?_, by decide, by decide, by decide⟩
  · cases p <;> decide
  · cases p <;> decide

theorem witness_classPut :
    LinkReady stocked ∧ stocked.vq.queue = [] ∧ Cls.ofNat? 8 = some .class8 ∧ ((1 ≤ 24 ∧ 24 ≤ 24) ∧ (2 ≤ 8 ∧ 50 ≤ 400)) ∧
      24 < 25 := ⟨stocked_ready, rfl, rfl, by decide, by decide⟩

/-- The body of the default settings, and the same with line volumes of 121 L, are in range. -/
theorem depotBody_inRange (n : Nat) (h : n = 120 ∨ n = 121) : DepotInRange { depotBody with lineVolume := Six.all n } := by
  rcases h with rfl | rfl <;>
    refine ⟨⟨by decide, by decide, fun l => ?_, by decide, by decide⟩, ⟨fun b => ?_, fun b => ?_, by decide, by decide⟩,
      by decide, by decide, by decide, fun ch => ?_,
      ⟨by decide, by decide, by decide, by decide, by decide, by decide, fun ch => ?_⟩⟩ <;>
    first
    | (cases l <;> decide)
    | (cases b <;> decide)
    | (cases ch <;> decide)

theorem witness_depotSet :
    LinkReady stocked ∧ ¬ DepotInRange { depotBody with pitCapacity := 0 } ∧ DepotInRange depotBody ∧
      (∀ b : Bay, (stocked.bc.get b).lineFilled = true →
        depotBody.lineVolume.get b = stocked.dt.settings.lineVolume.get b) ∧
      stocked.vq.queue = [] ∧ stocked.sa.requests = Six.all false ∧ stocked.sa.channels = ⟨.idle, .idle⟩ ∧
      stocked.cu.ring.entries = [] ∧ depotBody.leadMode = some stocked.dt.settings.leadMode := by
  refine ⟨stocked_ready, fun h => ?_, depotBody_inRange 120 (Or.inl rfl), fun b => ?_, rfl, rfl, rfl, rfl, rfl⟩
  · exact absurd h.2.2.2.1.1.1 (by decide)
  · cases b <;> decide

theorem witness_depotSet_filled :
    DepotInRange { depotBody with lineVolume := Six.all 121 } ∧
      ∃ b : Bay, (stocked.bc.get b).lineFilled = true ∧
        ({ depotBody with lineVolume := Six.all 121 } : SetDepot).lineVolume.get b ≠ stocked.dt.settings.lineVolume.get b :=
  ⟨depotBody_inRange 121 (Or.inr rfl), .bay1, by decide⟩

/-! ### Queries and operating requests -/

theorem witness_queries :
    LinkReady stocked ∧ Bay.ofNat? 1 = some .bay1 ∧ Bay.ofNat? 6 = some .bay6 ∧ Channel.ofNat? 0 = some .ch0 ∧
      Channel.ofNat? 7 = some .ch7 ∧ Lane.ofNat? 1 = some .lane1 ∧ Lane.ofNat? 2 = some .lane2 :=
  ⟨stocked_ready, rfl, rfl, rfl, rfl, rfl, rfl⟩

theorem witness_queue :
    (queued.vq.queue = [1] ∧ (∀ n ∈ queued.vq.queue, Table.look queued.vq.visits n ≠ none) ∧
      Table.look queued.vq.visits 1 = some queuedVisit) ∧
    (let s := { queued with
       vq := ⟨[(1, { queuedVisit with state := .called, bay := some .bay2 })], [], [1], 1⟩ }
     LinkReady s ∧ s.vq.called[0]? = some 1 ∧ (∀ n ∈ s.vq.called, Table.look s.vq.visits n ≠ none)) :=
  ⟨⟨rfl, by decide, rfl⟩, ⟨rfl, by decide⟩, rfl, by decide⟩

theorem witness_accountAnswered :
    LinkReady stocked ∧ Table.look stocked.dt.accounts 65535 = none ∧ ∃ a, Table.look stocked.dt.accounts 530 = some a :=
  ⟨stocked_ready, rfl, ⟨_, rfl⟩⟩

/-- A phase result with readings. -/
def fullResult : PhaseResult :=
  { (PhaseRun.begin 1 1 17 0 wetRecord).result 0 .complete 0 with
    readings := some exampleReadings, figures := some ⟨364, 313, 200, 113⟩ }

/-- `queued` with a visit of 8 results, more than one reply holds. -/
def longVisit : State :=
  { queued with vq := ⟨[(1, { queuedVisit with results := List.replicate 8 fullResult })], [1], [], 1⟩ }

theorem witness_visitAnswered :
    LinkReady queued ∧ Table.look queued.vq.visits 2 = none ∧ (∃ v, Table.look queued.vq.visits 1 = some v) ∧
      ∃ v, Table.look longVisit.vq.visits 1 = some v ∧ v.tags.length ≤ 4 ∧ v.results.length = 8 ∧
        (fitResults 240 v.results).length < 8 :=
  ⟨queued_ready, rfl, ⟨_, rfl⟩, _, rfl, by decide, by decide, by decide⟩

theorem witness_modeSet :
    LinkReady stocked ∧ stocked.lm.mode ≠ .closed ∧ (∀ l : Lane, (stocked.gu.get l).state = .idle) ∧
      stocked.vq.called = [] ∧ (∀ b : Bay, (stocked.bc.get b).state ≠ .empty ∧ (stocked.bc.get b).state ≠ .called) ∧
      (stocked.qs.readings.getCh .ch5).valid = false := by
  refine ⟨stocked_ready, by decide, fun l => ?_, rfl, fun b => ?_, rfl⟩
  · cases l <;> rfl
  · cases b <;> decide

/-- A bay EMPTY in service with its lines filled, and a bay CLOSED and out of service. -/
def emptyBay : BayRecord := { coldBay ⟨false, false⟩ with state := .empty, lineFilled := true }

def outBay : BayRecord := { coldBay ⟨false, false⟩ with service := .outOfService }

/-- A depot at rest in a mode, its CH5 reading valid. -/
def rested (mode : DepotMode) (bays : Six BayRecord) : State :=
  { stocked with
    bc := bays
    lm := { stocked.lm with mode := mode }
    qs := { stocked.qs with
      converter := .converting .ch5 6000
      readings := stocked.qs.readings.setCh .ch5 { clearedReading with valid := true, value := 20 } } }

/-- Bay 1 EMPTY, bay 2 EMPTY, the others out of service. -/
def twoEmpty : Six BayRecord := ⟨emptyBay, emptyBay, outBay, outBay, outBay, outBay⟩

theorem rested_calm (mode : DepotMode) (bays : Six BayRecord) :
    LinkReady (rested mode bays) ∧ LanesIdle (rested mode bays) ∧ NoCall (rested mode bays) ∧
      SupplyCalm (rested mode bays) ∧ NoDemand (rested mode bays) ∧ NoPhase (rested mode bays) :=
  ⟨stocked_ready, fun l => by cases l <;> rfl, ⟨rfl, rfl⟩, ⟨rfl, rfl⟩, fun b => by cases b <;> rfl,
    fun b => by cases b <;> rfl⟩

theorem twoEmpty_steady (mode : DepotMode) : BaysSteady (rested mode twoEmpty) := fun b => by
  cases mode <;> cases b <;> decide

theorem witness_modeOpenHold :
    (LinkReady (rested .hold twoEmpty) ∧ LanesIdle (rested .hold twoEmpty) ∧ NoCall (rested .hold twoEmpty) ∧
      SupplyCalm (rested .hold twoEmpty)) ∧ BaysSteady (rested .hold twoEmpty) ∧
    (rested .hold twoEmpty).lm.mode ≠ .opened ∧ (rested .opened twoEmpty).lm.mode ≠ .hold ∧
    (let s := rested .closed ⟨{ emptyBay with state := .closed }, outBay, outBay, outBay, outBay, outBay⟩
     s.lm.mode ≠ .opened ∧ s.lm.mode ≠ .hold ∧ (s.bc.get .bay1).state = .closed ∧ (s.bc.get .bay1).service = .inService ∧
       (s.bc.get .bay1).lineFilled = true ∧ (s.bc.get .bay1).wheelStop = false ∧ (s.bc.get .bay1).rearBeam = false ∧
       ∀ c, c ≠ .bay1 → (s.bc.get c).state = .closed ∧ (s.bc.get c).service = .outOfService) ∧
    ((rested .opened twoEmpty).lm.mode = .opened ∧ (rested .opened twoEmpty).lm.holdOrigin = none) := by
  have h := rested_calm .hold twoEmpty
  refine ⟨⟨h.1, h.2.1, h.2.2.1, h.2.2.2.1⟩, twoEmpty_steady _, by decide, by decide, ⟨by decide, by decide, rfl, rfl, rfl, rfl,
    rfl, fun c hc => ?_⟩, rfl, rfl⟩
  cases c <;> first | exact absurd rfl hc | exact ⟨rfl, rfl⟩

/-- Bay 1 with its lines filled, the others with empty lines, all CLOSED; bay 2 out of service. -/
def threeKinds : Six BayRecord :=
  ⟨{ emptyBay with state := .closed }, outBay, coldBay ⟨false, false⟩, coldBay ⟨false, false⟩, outBay, outBay⟩

theorem witness_modeRefill :
    (rested .hold threeKinds).lm.mode ≠ .refill ∧ ((rested .hold threeKinds).qs.readings.getCh .ch5).valid = true ∧
      (rested .hold threeKinds).dt.settings.holdThreshold ≤ ((rested .hold threeKinds).qs.readings.getCh .ch5).value ∧
      (∀ c, ((rested .hold threeKinds).bc.get c).state = .closed ∧
        ((rested .hold threeKinds).bc.get c).service ≠ .outPending) ∧
      Bay.all = [.bay1, .bay2] ++ .bay3 :: [.bay4, .bay5, .bay6] ∧
      (let open_ := fun c => ((rested .hold threeKinds).bc.get c).service = .inService ∧
        ((rested .hold threeKinds).bc.get c).lineFilled = false ∧ (rested .hold threeKinds).lm.refills.get c = none
       open_ .bay3 ∧ ∀ c ∈ [Bay.bay1, Bay.bay2], ¬ open_ c) := by
  refine ⟨by decide, rfl, by decide, fun c => ?_, rfl, ⟨rfl, rfl, rfl⟩, by decide⟩
  cases c <;> decide

theorem witness_modeDrain :
    (rested .drain threeKinds).lm.mode = .drain ∧
      (let s := loopWith (rested .hold threeKinds) ({ · with drainPending := some .frost })
       s.lm.mode ≠ .drain ∧ s.lm.drainPending ≠ none) ∧
      (let s := rested .hold ⟨{ emptyBay with state := .washing }, outBay, outBay, outBay, outBay, outBay⟩
       s.lm.mode = .hold ∧ s.lm.drainPending = none ∧ s.anyWashing = true) ∧
      ((rested .hold ⟨{ emptyBay with state := .closed }, { emptyBay with state := .closed }, outBay, outBay, outBay, outBay⟩).lm.drainPending = none ∧
        (∀ b : Bay, ((rested .hold ⟨{ emptyBay with state := .closed }, { emptyBay with state := .closed }, outBay, outBay, outBay, outBay⟩).bc.get b).state = .closed) ∧
        LinesTold (rested .hold ⟨{ emptyBay with state := .closed }, { emptyBay with state := .closed }, outBay, outBay, outBay, outBay⟩)) := by
  refine ⟨rfl, ⟨by decide, by decide⟩, ⟨rfl, rfl, by decide⟩, rfl, fun b => ?_, fun b => ?_⟩ <;> cases b <;> decide

/-- A summary pending, and one in the posting list. -/
def closing (pending : Option Summary) (posting : List PostItem) : State :=
  { stocked with cu := { coldCharges with pendingSummary := pending, posting := posting, writing := none } }

theorem witness_dayClosed :
    ((closing none []).cu.pendingSummary = none ∧ (∀ y, PostItem.summary y ∉ (closing none []).cu.posting) ∧
      (closing none []).places ≤ 62 ∧ (closing none []).cu.posting = [] ∧ (closing none []).cu.writing = none) ∧
    ((closing (some ⟨0, 1, noCounts⟩) [.summary ⟨0, 0, noCounts⟩]).cu.pendingSummary = some ⟨0, 1, noCounts⟩ ∧
      ∃ y, PostItem.summary y ∈ (closing (some ⟨0, 1, noCounts⟩) [.summary ⟨0, 0, noCounts⟩]).cu.posting) ∧
    62 < ({ stocked with cu := { coldCharges with reservations := 63 } } : State).places ∧
    ({ stocked with cu := { coldCharges with posting := [.visit 1], writing := some .summary } } : State).cu.writing ≠ none :=
  ⟨⟨rfl, by simp [closing], by decide, rfl, rfl⟩, ⟨rfl, _, List.mem_singleton.mpr rfl⟩, by decide, by decide⟩

theorem witness_clockSet :
    LinkReady stocked ∧ stocked.clock.day ≤ 65535 ∧ 86399 < 86400 ∧
      (2 ≤ (2 + 65536 - stocked.clock.day) % 65536 ∧ (32767 + 65536 - stocked.clock.day) % 65536 ≤ 32767) ∧
      32768 ≤ (32768 + 65536 - stocked.clock.day) % 65536 ∧ (1 + 65536 - stocked.clock.day) % 65536 = 1 :=
  ⟨stocked_ready, by decide, by decide, by decide, by decide, by decide⟩

theorem witness_allowanceSet : LinkReady stocked ∧ 1000000 < 1000001 ∧ 1000000 ≤ 1000000 :=
  ⟨stocked_ready, by decide, by decide⟩

theorem witness_bayService :
    LinkReady stocked ∧ stocked.lm.mode ≠ .refill ∧
      ((stocked.bc.get .bay2).state = .closed ∧ (stocked.bc.get .bay2).service = .inService) ∧
      ((stocked.bc.get .bay1).state ≠ .closed ∧ (stocked.bc.get .bay1).state ≠ .empty ∧
        (stocked.bc.get .bay1).state ≠ .called ∧ (stocked.bc.get .bay1).service = .inService) ∧
      ((bayWith stocked ({ · with service := .outPending })).bc.get .bay1).service = .outPending :=
  ⟨stocked_ready, by decide, by decide, by decide, rfl⟩

theorem witness_bayReleased :
    LinkReady stocked ∧ (stocked.bc.get .bay1).state = .stray ∧
      (let s := bayWith stocked ({ · with state := .finishing, releaseHold := true })
       (s.bc.get .bay1).state = .finishing ∧ (s.bc.get .bay1).releaseHold = true) ∧
      ((stocked.bc.get .bay2).state ≠ .stray ∧ (stocked.bc.get .bay2).state ≠ .finishing) :=
  ⟨stocked_ready, rfl, ⟨rfl, rfl⟩, by decide⟩

theorem witness_bayAssigned :
    LinkReady queued ∧ Bay.ofNat? 1 = some .bay1 ∧ Bay.ofNat? 2 = some .bay2 ∧ [78].Nodup ∧ 0 ∉ [78] ∧
      Table.has queued.dt.accounts 530 = true ∧ queued.dt.programmes.get .prog1 = some dryProgramme ∧
      dryProgramme.phases = { dryRecord with weight := 100 } :: [] ∧
      (queued.bc.get .bay2).state ≠ .stray ∧ (queued.bc.get .bay1).state = .stray ∧
      (∃ g ∈ [77], queued.tagHeld g = true) ∧ (∀ g ∈ [78], queued.tagHeld g = false) ∧
      queued.vq.visits.length < 32 ∧ queued.places ≤ 61 ∧ washes queued.lm.mode = true ∧
      (queued.bc.get .bay1).lineFilled = true ∧ queued.plan? .bay1 = none :=
  ⟨queued_ready, rfl, rfl, by decide, by decide, by decide, rfl, rfl, by decide, rfl, ⟨77, by decide, by decide⟩,
    by decide, by decide, by decide, rfl, rfl, rfl⟩

theorem witness_visitCancelled :
    LinkReady queued ∧ Table.look queued.vq.visits 2 = none ∧ Table.look queued.vq.visits 1 = some queuedVisit ∧
      queuedVisit.state = .queued ∧ NoWaitingLane queued ∧ queued.cu.pendingSummary = none ∧
      ∀ x ∈ [VisitState.inBay, .interrupted, .finished],
        let s := { queued with vq := ⟨[(1, { queuedVisit with state := x })], [], [], 1⟩ }
        LinkReady s ∧ ∃ v, Table.look s.vq.visits 1 = some v ∧ v.state = x :=
  ⟨queued_ready, rfl, rfl, rfl, rfl, rfl, fun _ _ => ⟨queued_ready, _, rfl, rfl⟩⟩

theorem witness_overrideDecided :
    LinkReady (laneIn stocked (.refused .unknown)) ∧ Lane.ofNat? 1 = some .lane1 ∧
      (∀ x, (stocked.gu.get .lane1).state ≠ .refused x) ∧
      (((laneIn stocked (.refused .unknown)).gu.get .lane1).state = .refused .unknown ∧
        (laneIn stocked (.refused .unknown)).lm.mode = .opened ∧
        (laneIn stocked (.refused .unknown)).bayTakes .class4 = true ∧
        (laneIn stocked (.refused .unknown)).short = false ∧ NoEmptyBay (laneIn stocked (.refused .unknown))) ∧
      (loopWith (laneIn stocked (.refused .unknown)) ({ · with mode := .hold })).lm.mode ≠ .opened := by
  refine ⟨⟨rfl, by decide⟩, rfl, fun x => (by intro h; cases h), ⟨rfl, rfl, by decide, by decide, fun b => ?_⟩, by decide⟩
  cases b <;> decide

theorem witness_settled :
    LinkReady stocked ∧ ∃ a, Table.look stocked.dt.accounts 531 = some a := ⟨stocked_ready, ⟨_, rfl⟩⟩

/-- CH6 and CH7 valid. -/
def measured : State :=
  { stocked with qs := { stocked.qs with readings := (stocked.qs.readings.setCh .ch6
      { clearedReading with valid := true, value := 6000 }).setCh .ch7 { clearedReading with valid := true, value := -1 } } }

theorem witness_loopTrimmed :
    LinkReady measured ∧ NoPhase measured ∧ measured.sa.purge = none ∧ measured.lm.refills = Six.all none ∧
      measured.lm.discharge = none ∧ (measured.qs.readings.getCh .ch6).valid = true ∧
      (measured.qs.readings.getCh .ch7).valid = true ∧ measured.sa.debt = 0 ∧ measured.sa.requests = Six.all false ∧
      (loopWith measured ({ · with discharge := some 6000 })).lm.discharge ≠ none := by
  refine ⟨⟨rfl, by decide⟩, fun b => ?_, rfl, rfl, rfl, rfl, rfl, rfl, rfl, by decide⟩
  cases b <;> rfl

theorem witness_discharged : LinkReady stocked ∧ 0 < stocked.lm.vSet ∧ 60000 ≤ 60000 ∧ 60000 < 60001 :=
  ⟨stocked_ready, by decide, by decide, by decide⟩

/-- An entry of the ring. -/
def dayEntry (n : Nat) : Entry := ⟨BitVec.ofNat 32 n, .day ⟨0, 0, noCounts⟩ 1 0, false, 0, 0⟩

/-- Two entries in the ring, one of them delivered. -/
def ringed : State :=
  { stocked with
    cu := { coldCharges with ring := ⟨63, [dayEntry 5, dayEntry 6]⟩, nextSeq := 7 }, lp := { stocked.lp with mark := 6 } }

theorem witness_charges :
    LinkReady ringed ∧ (1 ≤ 4 ∧ 4 ≤ 4) ∧ NoWaitingLane ringed ∧ ringed.cu.pendingSummary = none ∧
      ((5 : Seq) - ringed.headSeq).toNat < (ringed.lp.mark - ringed.headSeq).toNat ∧
      ((ringed.lp.mark - ringed.headSeq).toNat ≤ ((6 : Seq) - ringed.headSeq).toNat ∧
        ((6 : Seq) - ringed.headSeq).toNat < 2147483648) ∧
      ((ringed.lp.mark - ringed.headSeq).toNat < 2147483648 ∧ 2147483648 ≤ ((4 : Seq) - ringed.headSeq).toNat) := by
  refine ⟨⟨rfl, by decide⟩, by decide, rfl, rfl, ?_⟩
  decide

/-! ### Lanes -/

theorem witness_treadles :
    ((laneIn queued (.admitted 1 false)).gu.get .lane1).treadleA.window = none ∧
      (let s := laneWith queued fun l => { l with state := .occupied, treadleA := ⟨true, false, some 5016⟩ }
       ((s.gu.get .lane1).treadle .a).window = some 5016 ∧ (s.gu.get .lane1).state = .occupied) ∧
      (let s := laneWith queued fun l => { l with state := .idle, treadleA := ⟨true, false, some 5016⟩ }
       (s.gu.get .lane1).state = .idle ∧ (s.gu.get .lane1).stopBeam = false) ∧
      (let s := laneWith queued fun l => { l with state := .admitted 1 false, treadleA := ⟨true, false, some 5016⟩ }
       ∃ n c, (s.gu.get .lane1).state = .admitted n c) ∧
      (let s := laneWith queued fun l => { l with state := .waiting 4000 false, treadleA := ⟨true, false, some 5016⟩ }
       ∃ a m, (s.gu.get .lane1).state = .waiting a m) :=
  ⟨rfl, ⟨rfl, rfl⟩, ⟨rfl, rfl⟩, ⟨1, false, rfl⟩, ⟨4000, false, rfl⟩⟩

theorem witness_axleCount :
    (laneWith stocked ({ · with count := 14 }) |>.gu.get .lane1).count < 15 ∧
      15 ≤ (laneWith stocked ({ · with count := 15 }) |>.gu.get .lane1).count := by decide

/-- An identity with an account, and one without. -/
def known : Identity := stocked.identity [77]

theorem witness_admissionChecks :
    State.reset.lm.mode ≠ .opened ∧ queued.lm.mode = .opened ∧ (∃ g ∈ [77], queued.tagHeld g = true) ∧
      (∀ g ∈ [77], stocked.tagHeld g = false) ∧ stocked.accountBlocked (some 531) = true ∧
      stocked.casualRefused = true ∧ stocked.accountBlocked (some 530) = false ∧ known.account ≠ none := by decide

theorem witness_stopBeam :
    (let s := laneIn stocked .occupied
     (s.gu.get .lane1).stopBeam = false ∧ (s.gu.get .lane1).state = .occupied ∧
       s.refusal (s.gu.get .lane1).tags (s.identity (s.gu.get .lane1).tags) false = some .unknown) ∧
    (let s := laneWith stocked fun l => { l with state := .occupied, tags := [77] }
     s.refusal (s.gu.get .lane1).tags (s.identity (s.gu.get .lane1).tags) false = none ∧ s.short = false) ∧
    NoEmptyBay (laneWith stocked fun l => { l with state := .occupied, tags := [77] }) ∧
    (let s := { laneWith stocked (fun l => { l with state := .occupied, tags := [77] }) with
       cu := { coldCharges with reservations := 62 } }
     s.refusal (s.gu.get .lane1).tags (s.identity (s.gu.get .lane1).tags) false = none ∧ s.short = true) := by
  refine ⟨by decide, by decide, fun b => ?_, by decide⟩
  cases b <;> decide

/-- A tagged lane 1 OCCUPIED before bays EMPTY: bay 1 of 24 segments, bays 5 and 6 of 12. -/
def calling : State :=
  { laneWith stocked (fun l => { l with state := .occupied, tags := [77] }) with
    bc := ⟨emptyBay, outBay, outBay, outBay, emptyBay, emptyBay⟩
    dt := { stocked.dt with tags := [(77, ⟨530, .powered, .class1⟩)] } }

theorem witness_admittedVisitCalled :
    (calling.gu.get .lane1).stopBeam = false ∧ (calling.gu.get .lane1).state = .occupied ∧
      calling.refusal (calling.gu.get .lane1).tags (calling.identity (calling.gu.get .lane1).tags) false = none ∧
      calling.short = false ∧ NoWaitingLane calling ∧ calling.vq.queue = [] ∧
      (let len := (calling.dt.classes.getCls (calling.identity (calling.gu.get .lane1).tags).cls).length
       let size := calling.dt.settings.maxSegments
       let takes := fun c =>
         (calling.bc.get c).state = .empty ∧ (calling.bc.get c).service = .inService ∧ len ≤ size.get c
       Bay.all = [.bay1, .bay2, .bay3, .bay4] ++ .bay5 :: [.bay6] ∧ takes .bay5 ∧
         (∀ c ∈ [Bay.bay1, Bay.bay2, Bay.bay3, Bay.bay4], takes c → size.get .bay5 < size.get c) ∧
         ∀ c ∈ [Bay.bay6], takes c → size.get .bay5 ≤ size.get c) :=
  ⟨rfl, rfl, by decide, by decide, rfl, rfl, rfl, by decide, by decide, by decide⟩

theorem witness_clearBeam :
    (((laneIn queued (.admitted 1 false)).gu.get .lane1).state = .admitted 1 false ∧
      ((laneIn queued (.admitted 1 false)).gu.get .lane1).clearBeam = false) ∧
    (let s := laneWith queued fun l => { l with state := .admitted 1 false, clearBeam := true }
     (s.gu.get .lane1).state = .admitted 1 false ∧ (s.gu.get .lane1).clearBeam = true) ∧
    (let s := laneWith queued fun l => { l with state := .admitted 1 true, clearBeam := true }
     (s.gu.get .lane1).state = .admitted 1 true ∧ (s.gu.get .lane1).clearBeam = true ∧
       Table.look s.vq.visits 1 = some queuedVisit ∧ queuedVisit.posted = none ∧ s.priced 1 = false ∧
       Table.look s.vq.visits 2 = none) ∧
    (let s := laneWith { queued with vq := ⟨[(1, { queuedVisit with posted := some 4 })], [], [], 1⟩ } fun l =>
       { l with state := .admitted 1 true, clearBeam := true }
     (s.gu.get .lane1).state = .admitted 1 true ∧ ∃ v, Table.look s.vq.visits 1 = some v ∧ v.posted ≠ none) ∧
    (∀ x ∈ [LaneState.idle, .occupied, .waiting 1 false, .refused .full], ∀ n c,
      ((laneIn queued x).gu.get .lane1).state ≠ .admitted n c ∧ ((laneIn queued x).gu.get .lane1).clearBeam = !true) := by
  refine ⟨⟨rfl, rfl⟩, ⟨rfl, rfl⟩, ⟨rfl, rfl, rfl, rfl, rfl, rfl⟩, ⟨rfl, _, rfl, by decide⟩, fun x hx n c => ⟨?_, rfl⟩⟩
  intro h
  have h' : x = .admitted n c := h
  subst h'
  simp at hx

theorem witness_keysAndTags :
    (∀ x ∈ [LaneState.occupied, .refused .full, .waiting 0 true, .idle],
      let s := laneWith stocked fun l => { l with state := x, tags := [1, 2, 3] }
      (s.gu.get .lane1).state = x ∧ 3 ∈ (s.gu.get .lane1).tags ∧ 4 ∉ (s.gu.get .lane1).tags ∧
        (s.gu.get .lane1).tags.length < 4 ∧ (s.gu.get .lane1).stopBeam = false) ∧
    (let s := laneWith stocked fun l => { l with state := .occupied, tags := [1, 2, 3, 4] }
     5 ∉ (s.gu.get .lane1).tags ∧ 4 ≤ (s.gu.get .lane1).tags.length) ∧
    (let s := laneWith stocked ({ · with stopBeam := true })
     (s.gu.get .lane1).state = .idle ∧ (s.gu.get .lane1).stopBeam = true ∧
       s.refusal [9] (s.identity [9]) false = some .unknown) ∧
    (let s := laneWith { stocked with cu := { coldCharges with reservations := 62 } } ({ · with stopBeam := true })
     s.refusal [77] (s.identity [77]) false = none ∧ s.short = true) ∧
    (∃ n c, ((laneIn queued (.admitted 1 false)).gu.get .lane1).state = .admitted n c) := by
  refine ⟨fun x _ => ⟨rfl, show 3 ∈ [1, 2, 3] by decide, show 4 ∉ [1, 2, 3] by decide, show 3 < 4 by decide, rfl⟩,
    by decide, by decide, by decide, ⟨_, _, rfl⟩⟩

theorem witness_laneTimers :
    (let s := laneWith stocked fun l =>
       { l with state := .occupied, stall := some 9000, wait := some 9000, barrierPulse := some 9000 }
     (s.gu.get .lane1).stall = some 9000 ∧ (s.gu.get .lane1).wait = some 9000 ∧
       (s.gu.get .lane1).barrierPulse = some 9000) ∧
    (stocked.gu.get .lane1).stall = none ∧ (stocked.gu.get .lane1).wait = none ∧
      (stocked.gu.get .lane1).barrierPulse = none := ⟨⟨rfl, rfl, rfl⟩, rfl, rfl, rfl⟩

/-! ### Bays and phases -/

/-- The visit of `queued`, washing in bay 1. -/
def washingVisit : Visit := { queuedVisit with state := .inBay, bay := some .bay1, axles := some 5 }

/-- Bay 1 WASHING visit 1 with a phase of a given record, changed as given. -/
def washing (r : PhaseRecord) (f : PhaseRun → PhaseRun) : State :=
  { bayWith queued ({ · with state := .washing, held := some 1, wheelStop := true, rearBeam := true,
                             lossFilter := some 7000 }) with
    vq := ⟨[(1, washingVisit)], [], [], 1⟩
    pr := queued.pr.set .bay1 ⟨some (f (PhaseRun.begin 1 1 17 4000 r)), 0⟩ }

theorem witness_washCutShort :
    ((bayWith stocked ({ · with state := .releasing })).bc.get .bay1).state = .releasing ∧
      ((bayWith stocked ({ · with state := .empty })).bc.get .bay1).state = .empty ∧
      (let s := washing dryRecord id
       (s.bc.get .bay1).state = .washing ∧ (s.bc.get .bay1).held = some 1 ∧
         Table.look s.vq.visits 1 = some washingVisit ∧ (∃ p, s.plan? .bay1 = some p ∧ p.visit = 1 ∧ p.fresh = 0 ∧
           p.recycled = 0) ∧ s.serving .bay1 = none ∧ s.lm.drainPending = none ∧ s.cu.posting = [] ∧
         s.cu.writing = none ∧ s.lm.vSet ≤ s.dt.settings.pitCapacity ∧ (s.bc.get .bay1).lossFilter = some 7000) :=
  ⟨rfl, rfl, rfl, rfl, rfl, ⟨_, rfl, rfl, rfl, rfl⟩, rfl, rfl, rfl, rfl, by decide, rfl⟩

/-- Bay 1 SEATING with visit 1 called, after some no-shows. -/
def seating (noShow : Nat) : State :=
  { bayWith queued ({ · with state := .seating, called := some 1, callTimer := some 9000, settleTimer := some 8000 }) with
    vq := ⟨[(1, { queuedVisit with state := .called, bay := some .bay1, noShow := noShow })], [], [1], 1⟩ }

theorem witness_callTimesOut :
    ((seating 0).bc.get .bay1).state = .seating ∧ ((seating 0).bc.get .bay1).callTimer = some 9000 ∧
      ((seating 0).bc.get .bay1).called = some 1 ∧ NoEmptyBay (seating 0) ∧
      (∃ v, Table.look (seating 0).vq.visits 1 = some v ∧ v.noShow = 0) ∧ (seating 0).vq.queue.length < 24 ∧
      (∃ v, Table.look (seating 1).vq.visits 1 = some v ∧ 1 ≤ v.noShow) ∧ NoEmptyBay (seating 1) ∧
      NoWaitingLane (seating 1) ∧ (seating 1).cu.pendingSummary = none := by
  refine ⟨rfl, rfl, rfl, fun b => ?_, ⟨_, rfl, rfl⟩, by decide, ⟨_, rfl, by decide⟩, fun b => ?_, rfl, rfl⟩ <;>
    cases b <;> decide

theorem witness_settleRunsOut :
    ((seating 0).bc.get .bay1).settleTimer = some 8000 ∧ ((seating 0).bc.get .bay1).called = some 1 ∧
      (∃ v, Table.look (seating 0).vq.visits 1 = some v ∧
        (seating 0).dt.programmes.get v.programme = some dryProgramme) ∧
      (∃ r rest, dryProgramme.phases = r :: rest ∧ r.kind = .dry) ∧ washes (seating 0).lm.mode = true ∧
      ((seating 0).bc.get .bay1).lineFilled = true ∧ (seating 0).plan? .bay1 = none ∧
      (∀ l : Lane, ((seating 0).gu.get l).state = .idle) ∧
      (let s := bayWith stocked ({ · with settleTimer := some 8000 })
       (s.bc.get .bay1).settleTimer = some 8000 ∧ (s.bc.get .bay1).called = none) := by
  refine ⟨rfl, rfl, ⟨_, rfl, rfl⟩, ⟨_, _, rfl, rfl⟩, rfl, rfl, rfl, fun l => ?_, rfl, rfl⟩
  cases l <;> rfl

theorem witness_presence :
    (∀ x ∈ [BayState.called, .empty, .washing], ∀ w r : Bool,
      let s := bayWith stocked ({ · with state := x, wheelStop := w, rearBeam := r })
      (s.bc.get .bay1).state = x ∧ (s.bc.get .bay1).wheelStop = w ∧ (s.bc.get .bay1).rearBeam = r ∧
        (s.bc.get .bay1).sensorTimer = none) := fun _ _ _ _ => ⟨rfl, rfl, rfl, rfl⟩

theorem witness_bayTimers :
    (let s := bayWith stocked ({ · with exitPulse := some 9000, exitStall := some 9000, sensorTimer := some 9000 })
     (s.bc.get .bay1).exitPulse = some 9000 ∧ (s.bc.get .bay1).exitStall = some 9000 ∧
       (s.bc.get .bay1).sensorTimer = some 9000) ∧
    (stocked.bc.get .bay1).exitPulse = none ∧ (stocked.bc.get .bay1).exitStall = none ∧
      (stocked.bc.get .bay1).sensorTimer = none := ⟨⟨rfl, rfl, rfl⟩, rfl, rfl, rfl⟩

/-- A phase that draws on supply channel 1: 200 L fresh and 113 L recycled planned. -/
def drawing (p : PhaseRun) : PhaseRun :=
  { p with stage := .running, figures := some ⟨364, 313, 200, 113⟩, freshOpen := true, recycledOpen := true,
           grant := some .supply1, fresh := 198, recycled := 111 }

theorem witness_meterPulse :
    stocked.plan? .bay1 = none ∧
      (∃ p f, (washing wetRecord drawing).plan? .bay1 = some p ∧ p.figures = some f ∧ p.freshOpen = true ∧
        p.fresh + 1 < f.fresh ∧ p.recycled < f.recycled ∧ p.recycledOpen = true ∧ p.recycled + 1 < f.recycled) ∧
      (∃ p, (washing wetRecord fun p => { drawing p with freshOpen := false, recycledOpen := false }).plan? .bay1 = some p ∧
        p.freshOpen = false ∧ p.recycledOpen = false) ∧
      (∃ p, (washing wetRecord id).plan? .bay1 = some p ∧ p.stage = .reading ∧ p.freshOpen = false ∧
        p.recycledOpen = false) ∧
      (∃ p, (washing dryRecord (·.run 5000)).plan? .bay1 = some p ∧ p.stage = .running ∧ p.freshOpen = false ∧
        p.recycledOpen = false) :=
  ⟨rfl, ⟨_, _, rfl, rfl, rfl, by decide, by decide, rfl, by decide⟩, ⟨_, rfl, rfl, rfl⟩, ⟨_, rfl, rfl, rfl, rfl⟩,
    ⟨_, rfl, rfl, rfl, rfl⟩⟩

theorem witness_phaseLimits :
    (let s := washing dryRecord ({ · with stage := .running })
     (s.bc.get .bay1).state = .washing ∧ (s.bc.get .bay1).held = some 1 ∧
       Table.look s.vq.visits 1 = some washingVisit ∧
       (∃ p, s.plan? .bay1 = some p ∧ p.visit = 1 ∧ p.fresh = 0 ∧ p.recycled = 0 ∧ s.phaseCount 1 ≤ p.number ∧
         p.stage = .running ∧ p.record.kind = .dry) ∧
       s.serving .bay1 = none ∧ s.lm.drainPending = none ∧ s.cu.posting = [] ∧ s.cu.writing = none ∧
       s.lm.vSet ≤ s.dt.settings.pitCapacity) ∧
    (∃ p, (washing wetRecord ({ · with stage := .running })).plan? .bay1 = some p ∧ p.stage = .running ∧
      p.record.kind = .wet) ∧
    (∃ p, (washing wetRecord ({ · with stage := .paused })).plan? .bay1 = some p ∧ p.stage = .paused) ∧
    (∃ p, (washing wetRecord ({ · with stage := .reading })).plan? .bay1 = some p ∧ p.stage = .reading) :=
  ⟨⟨rfl, rfl, rfl, ⟨_, rfl, rfl, rfl, rfl, by decide, rfl, rfl⟩, rfl, rfl, rfl, rfl, by decide⟩, ⟨_, rfl, rfl, rfl⟩,
    ⟨_, rfl, rfl⟩, ⟨_, rfl, rfl⟩⟩

/-- The drawing phase of bay 1 without a grant, over a pit at a level. -/
def delivered (pit : Int) : State :=
  loopWith (washing wetRecord fun p => { drawing p with grant := none }) ({ · with vSet := pit })

theorem witness_phaseEndReturns :
    (∀ pit : Int, ((delivered pit).bc.get .bay1).state = .washing ∧ ((delivered pit).bc.get .bay1).held = some 1 ∧
      Table.look (delivered pit).vq.visits 1 = some washingVisit ∧
      (∃ p, (delivered pit).plan? .bay1 = some p ∧ p.visit = 1 ∧ p.stage = .running ∧ p.fresh = 198 ∧
        p.recycled = 111 ∧ (delivered pit).phaseCount 1 ≤ p.number) ∧
      (delivered pit).serving .bay1 = none ∧ (delivered pit).lm.drainPending = none ∧
      (delivered pit).cu.posting = [] ∧ (delivered pit).cu.writing = none ∧
      (delivered pit).dt.settings.carryOff ≤ 1000) ∧
    (198 + 111) * (delivered 0).dt.settings.carryOff / 1000 = 12 ∧ 12 + 297 = 198 + 111 ∧
    (5000 : Int) + 297 ≤ (delivered 5000).dt.settings.pitCapacity ∧
    ((delivered 29704).dt.settings.pitCapacity : Int) < 29704 + 297 :=
  ⟨fun _ => ⟨rfl, rfl, rfl, ⟨_, rfl, rfl, rfl, rfl, rfl, Nat.le_refl 1⟩, rfl, rfl, rfl, rfl, show 40 ≤ 1000 by decide⟩,
    by decide, rfl,
    by decide, by decide⟩

theorem witness_nozzle :
    (∀ g : GenState, ∃ p, (washing dryRecord ({ · with gen := ⟨g, 0, some 9000, 0⟩ })).plan? .bay1 = some p ∧
      p.gen.due = some 9000 ∧ p.gen.state = g ∧ p.gen.frames + 1 < p.record.framesPerSegment) ∧
    (∃ p, (washing dryRecord ({ · with gen := ⟨.off, 1, some 9000, 0⟩ })).plan? .bay1 = some p ∧
      p.gen.due = some 9000 ∧ p.gen.state = .off ∧ p.record.framesPerSegment ≤ p.gen.frames + 1) :=
  ⟨fun _ => ⟨_, rfl, rfl, rfl, by simp [PhaseRun.begin, dryRecord, wetRecord]⟩, ⟨_, rfl, rfl, rfl, by decide⟩⟩

theorem witness_sweep :
    0 < 17 ∧ 0 < dryRecord.sweepGroup ∧ dryRecord.sweepMode = .hybrid ∧
      ({ dryRecord with sweepMode := .wrap } : PhaseRecord).sweepMode = .wrap := by decide

/-! ### Blend, sampler, supply -/

theorem witness_plan :
    10 ≤ wetRecord.volume ∧ wetRecord.cap ≤ 1000 ∧
      (planPhase wetRecord exampleReadings 5000 200 0 0).outcome = .plan ∧
      (planPhase wetRecord exampleReadings 5000 200 0 0).flags.short = true ∧
      ((planPhase wetRecord exampleReadings 5000 400 0 0).figures = some ⟨364, 400, 255, 145⟩ ∧
        (planPhase wetRecord exampleReadings 5000 400 0 0).flags.short = false ∧
        (planPhase wetRecord exampleReadings 5000 400 0 0).flags.lowRec = false ∧
        (planPhase wetRecord exampleReadings 5000 400 0 0).action ≠ .zero) ∧
      ((planPhase wetRecord exampleReadings 100 400 0 0).flags.lowRec = true ∧
        (planPhase wetRecord exampleReadings 100 400 0 0).flags.short = false) ∧
      ((planPhase { wetRecord with relax := 150 } exampleReadings 5000 400 0 401).outcome = .plan ∧ 400 < 401 ∧ 100 < 150) ∧
      (let r := { wetRecord with onStale := .zero }
       let u := { exampleReadings with cr := ⟨4756, true, false⟩ }
       (planPhase r u 5000 400 0 0).action = .zero ∧ (planPhase r u 5000 400 0 0).outcome = .plan) := by decide

theorem witness_fraction :
    ((2000 : Int) ≤ (2000 : Nat)) ∧ (((2000 : Nat) : Int) < 2001 ∧ ((2000 : Nat) : Int) ≤ 2000) ∧
      (((2000 : Nat) : Int) < 4756 ∧ (420 : Int) < (2000 : Nat)) := by decide

/-- The converter on a channel, or idle, with auto-frost OFF. -/
def converter (c : Converter) : State :=
  { stocked with
    qs := { startSampler with converter := c }, dt := { stocked.dt with settings := { coldSettings with autoFrost := false } } }

theorem witness_conversions :
    (converter .idle).qs.converter = .idle ∧
      (∀ ch, (converter (.converting ch 6000)).qs.converter = .converting ch 6000 ∧
        NoDemand (converter (.converting ch 6000)) ∧ (converter (.converting ch 6000)).dt.settings.autoFrost = false) ∧
      ((converter (.converting .ch0 6000)).qs.readings.getCh .ch2).valid = false ∧
      (∀ at_ : Nat,
        let s := { converter (.converting .ch0 6000) with
          now := 66000
          qs := { startSampler with
            readings := (Eight.all clearedReading).setCh .ch2 { clearedReading with valid := true, takenAt := some at_ } } }
        (s.qs.readings.getCh .ch2).valid = true ∧ (s.qs.readings.getCh .ch2).takenAt = some at_) ∧
      max 66000 6000 - 6000 ≤ 60000 ∧ 60000 < max 66000 6000 - 5999 :=
  ⟨rfl, fun _ => ⟨rfl, by intro b; cases b <;> rfl, rfl⟩, rfl, fun _ => ⟨rfl, rfl⟩, by decide, by decide⟩

/-- Codes of CH5 (from -40 to 40 degrees by default) below, at and above the thresholds. -/
theorem witness_airReading :
    (∀ m, (rested m twoEmpty).qs.converter = .converting .ch5 6000 ∧ (rested m twoEmpty).dt.settings.autoFrost = true ∧
      (rested m twoEmpty).lm.drainPending = none ∧ LanesIdle (rested m twoEmpty) ∧ NoCall (rested m twoEmpty) ∧
      SupplyCalm (rested m twoEmpty) ∧ NoDemand (rested m twoEmpty) ∧ BaysSteady (rested m twoEmpty)) ∧
    (∃ low mid high : BitVec 10,
      (let v := fun c => calibrate (coldSettings.calLo.getCh .ch5) (coldSettings.calHi.getCh .ch5) c
       v low < coldSettings.drainThreshold ∧ v low < coldSettings.holdThreshold ∧ v mid = coldSettings.holdThreshold ∧
         v high = coldSettings.holdThreshold + 2)) ∧
    (loopWith (rested .hold twoEmpty) ({ · with holdOrigin := some .frost })).lm.holdOrigin = some .frost ∧
    (rested .hold twoEmpty).lm.holdOrigin ≠ some .frost := by
  refine ⟨fun m => ?_, ⟨0, 537, 562, by decide⟩, rfl, by decide⟩
  have h := rested_calm m twoEmpty
  exact ⟨rfl, rfl, rfl, h.2.1, h.2.2.1, h.2.2.2.1, h.2.2.2.2.1, twoEmpty_steady m⟩

/-- CH0 read just now, CH1 read 30 s ago. -/
def ch1Due : State :=
  { converter .idle with
    now := 35000
    qs := { startSampler with
      holdTimer := some 40000
      readings := ((Eight.all clearedReading).setCh .ch0 { clearedReading with valid := true, takenAt := some 35000 }).setCh
        .ch1 { clearedReading with valid := true, takenAt := some 5000 } } }

theorem witness_samplerTimers :
    ch1Due.qs.converter = .idle ∧ NoDemand ch1Due ∧ ch1Due.qs.ch1Held = false ∧
      (ch1Due.qs.readings.getCh .ch1).valid = true ∧ (ch1Due.qs.readings.getCh .ch1).takenAt = some 5000 ∧
      5000 + 1000 * ch1Due.dt.settings.probePeriod.getCh .ch1 = ch1Due.now ∧
      Channel.all = [.ch0] ++ .ch1 :: [.ch2, .ch3, .ch4, .ch5, .ch6, .ch7] ∧
      (∀ c ∈ [Channel.ch0], (ch1Due.qs.readings.getCh c).valid = true ∧
        ∃ taken, (ch1Due.qs.readings.getCh c).takenAt = some taken ∧
          ch1Due.now - taken < 1000 * ch1Due.dt.settings.probePeriod.getCh c) ∧
      (ch1Due.qs.readings.getCh .ch2).valid = false ∧ ch1Due.qs.holdTimer = some 40000 ∧ stocked.qs.holdTimer = none := by
  refine ⟨rfl, fun b => ?_, rfl, rfl, rfl, rfl, rfl, fun c hc => ?_, rfl, rfl, rfl⟩
  · cases b <;> rfl
  · rw [List.mem_singleton.mp hc]
    exact ⟨rfl, _, rfl, by decide⟩

theorem witness_nextCart : (⟨true, false, false, false⟩ : Four Bool) ≠ ⟨false, false, false, false⟩ := by decide

/-- Supply channel 1 in a state, over a given depot. -/
def channelIn (s : State) (x : SupplyState) : State := { s with sa := { s.sa with channels := ⟨x, .idle⟩ } }

theorem witness_grantBegins :
    (let s := channelIn (washing wetRecord ({ · with stage := .paused, requested := true })) (.starting .bay1 6000)
     s.channel .supply1 = .starting .bay1 6000 ∧
       ∃ p, s.plan? .bay1 = some p ∧ p.stage = .paused ∧ p.requested = true) ∧
    ((channelIn stocked (.runOn 6000)).channel .supply1 = .runOn 6000 ∧
      (channelIn stocked (.runOn 6000)).sa.requests = Six.all false) ∧ stocked.channel .supply1 = .idle :=
  ⟨⟨rfl, ⟨_, rfl, rfl, rfl⟩⟩, ⟨rfl, rfl⟩, rfl⟩

/-- Channel 1 in RUN_ON, channel 2 drawing for bay 2, bays 3 and 1 asking, bay 3 first in the order. -/
def asking : State :=
  { stocked with sa := { stocked.sa with
      channels := ⟨.runOn 6000, .drawing .bay2 5000 9000⟩
      requests := ⟨true, false, true, false, false, false⟩
      priority := [.bay4, .bay3, .bay1, .bay5, .bay6, .bay2] } }

theorem witness_channelAllotted :
    Supply.supply1 ≠ .supply2 ∧ asking.channel .supply1 = .runOn 6000 ∧ (asking.channel .supply2).busy = true ∧
      asking.sa.priority = [.bay4] ++ .bay3 :: [.bay1, .bay5, .bay6, .bay2] ∧
      (∀ c ∈ [Bay.bay4], asking.sa.requests.get c = false) ∧ asking.sa.requests.get .bay3 = true ∧
      .bay3 ∉ [Bay.bay1, .bay5, .bay6, .bay2] ∧ asking.lm.mode = .opened ∧ asking.sa.purge = none ∧
      (asking.dt.settings.reserveFloor : Int) < asking.lm.vRec ∧ asking.sa.debt = 0 ∧ 0 < asking.dt.settings.startLead ∧
      (loopWith asking ({ · with vRec := 600 })).lm.vRec ≤ (asking.dt.settings.reserveFloor : Int) := by
  refine ⟨by decide, rfl, rfl, rfl, by decide, rfl, by decide, rfl, rfl, by decide, rfl, by decide, by decide⟩

/-- Bays 3 and 1 asking, bay 3 first in the order, at the end of a SLOT in FIXED lead mode. -/
def slotAsking (x : Pair SupplyState) : State :=
  { asking with
    dt := { asking.dt with settings := { asking.dt.settings with leadMode := .fixed } }
    sa := { asking.sa with channels := x, cycle := .slot, cycleEnd := some 9000 } }

/-- Bay 1 alone asking at the end of a SLOT, channel 1 in RUN_ON, its phase PAUSED. -/
def slotRunOn : State :=
  { slotAsking ⟨.runOn 9500, .idle⟩ with
    pr := (washing wetRecord ({ · with stage := .paused, requested := true })).pr
    sa := { (slotAsking ⟨.runOn 9500, .idle⟩).sa with requests := (Six.all false).set .bay1 true } }

/-- Bays 3 and 1 asking while the last purge owed is in progress. -/
def purgeAsking : State :=
  { asking with sa := { asking.sa with channels := ⟨.idle, .idle⟩, debt := 1, purge := some ⟨.cart1, 9000⟩ } }

theorem witness_requestsServed :
    (let s := slotAsking ⟨.idle, .idle⟩
     s.lm.mode = .opened ∧ 0 < s.dt.settings.startLead ∧ s.sa.priority.Nodup ∧ s.dt.settings.leadMode = .fixed ∧
       s.sa.cycle = .slot ∧ s.sa.cycleEnd = some 9000 ∧ s.sa.purge = none ∧
       (s.dt.settings.reserveFloor : Int) < s.lm.vRec ∧
       s.sa.priority = [.bay4] ++ .bay3 :: ([] ++ .bay1 :: [.bay5, .bay6, .bay2]) ∧
       (∀ e ∈ [Bay.bay4] ++ [], s.sa.requests.get e = false) ∧ s.sa.requests.get .bay3 = true ∧
       s.sa.requests.get .bay1 = true) ∧
    (slotRunOn.channel .supply1 = .runOn 9500 ∧
      slotRunOn.sa.priority = [.bay4, .bay3] ++ .bay1 :: [.bay5, .bay6, .bay2] ∧
      slotRunOn.sa.requests = (Six.all false).set .bay1 true ∧
      ∃ p, slotRunOn.plan? .bay1 = some p ∧ p.stage = .paused ∧ p.requested = true) ∧
    (purgeAsking.sa.purge = some ⟨.cart1, 9000⟩ ∧ purgeAsking.sa.debt = 1 ∧
      purgeAsking.dt.settings.leadMode = .variable ∧
      (purgeAsking.dt.settings.reserveFloor : Int) <
        purgeAsking.lm.vRec - min (purgeAsking.dt.settings.purgeVolume : Int) purgeAsking.lm.vRec ∧
      purgeAsking.lm.vSet + min (purgeAsking.dt.settings.purgeVolume : Int) purgeAsking.lm.vRec ≤
        purgeAsking.dt.settings.pitCapacity) :=
  ⟨⟨rfl, by decide, by decide, rfl, rfl, rfl, rfl, by decide, rfl, by decide, rfl, rfl⟩,
    ⟨rfl, rfl, rfl, ⟨_, rfl, rfl, rfl⟩⟩, ⟨rfl, rfl, rfl, by decide, by decide⟩⟩

/-- A draw of bay 1 on channel 1, with a purge due that the empty tank cannot serve. -/
def starved (x : SupplyState) : State :=
  let s := channelIn (washing wetRecord drawing) x
  { s with lm := { s.lm with vRec := 149 }, sa := { s.sa with debt := 1 } }

theorem witness_grantLost :
    (∃ p, (starved (.granted .bay1 9000)).plan? .bay1 = some p ∧ p.stage = .running ∧ p.grant = some .supply1 ∧
      p.timeouts ≤ 1) ∧
      (starved (.granted .bay1 9000)).dt.settings.leadMode = .variable ∧ 1 ≤ (starved (.granted .bay1 9000)).sa.debt ∧
      (starved (.granted .bay1 9000)).lm.vRec < ((starved (.granted .bay1 9000)).dt.settings.purgeVolume : Int) ∧
      0 < (starved (.granted .bay1 9000)).dt.settings.runOn ∧
      (starved (.granted .bay1 9000)).channel .supply1 = .granted .bay1 9000 ∧
      (starved (.drawing .bay1 5000 9000)).channel .supply1 = .drawing .bay1 5000 9000 :=
  ⟨⟨_, rfl, rfl, rfl, by decide⟩, rfl, by decide, by decide, by decide, rfl, rfl⟩

/-- The arbiter changed, on a given depot. -/
def arbiterWith (s : State) (f : Arbiter → Arbiter) : State := { s with sa := f s.sa }

theorem witness_purges :
    (let s := { arbiterWith stocked ({ · with debt := 3, purgeTimer := some 9000 }) with
       dt := { stocked.dt with settings := { coldSettings with leadMode := .fixed } } }
     s.sa.purgeTimer = some 9000 ∧ s.dt.settings.leadMode = .fixed) ∧
    stocked.sa.purgeTimer = none ∧ stocked.sa.purge = none ∧
    (let s := arbiterWith stocked ({ · with debt := 1, purge := some ⟨.cart1, 9000⟩ })
     s.sa.purge = some ⟨.cart1, 9000⟩ ∧ s.sa.debt = 1 ∧ s.sa.requests = Six.all false ∧ 0 ≤ s.lm.vRec ∧
       s.lm.vSet + min (s.dt.settings.purgeVolume : Int) s.lm.vRec ≤ s.dt.settings.pitCapacity) :=
  ⟨⟨rfl, rfl⟩, rfl, rfl, ⟨rfl, rfl, rfl, by decide, by decide⟩⟩

theorem witness_purgeStarts :
    (let s := arbiterWith stocked ({ · with debt := 2, purgeTimer := some 9000 })
     s.sa.purgeTimer = some 9000 ∧ s.dt.settings.leadMode = .variable ∧ s.sa.debt < 3 ∧ s.sa.channels.p1.busy = false ∧
       s.sa.channels.p2.busy = false ∧ (s.dt.settings.purgeVolume : Int) ≤ s.lm.vRec ∧ s.lm.mode = .opened ∧
       s.sa.purge = none ∧ NoDemand s ∧ ∀ u, s.qs.converter ≠ .converting .ch1 u) ∧
    3 ≤ (arbiterWith stocked ({ · with debt := 3 })).sa.debt ∧
    (loopWith stocked ({ · with vRec := 149 })).lm.vRec < (stocked.dt.settings.purgeVolume : Int) := by
  refine ⟨⟨rfl, rfl, by decide, rfl, rfl, by decide, rfl, rfl, fun b => ?_, fun u => ?_⟩, by decide, by decide⟩
  · cases b <;> rfl
  · intro h
    cases h

theorem witness_cycle :
    (let s := arbiterWith stocked ({ · with cycle := .window, cycleEnd := some 9000 })
     s.sa.cycleEnd = some 9000 ∧ s.sa.cycle = .window ∧ s.sa.channels = ⟨.idle, .idle⟩ ∧ s.sa.debt = 0) ∧
    (let s := arbiterWith stocked ({ · with cycle := .slot, cycleEnd := some 9000 })
     s.sa.cycleEnd = some 9000 ∧ s.sa.cycle = .slot ∧ s.sa.requests = Six.all false) :=
  ⟨⟨rfl, rfl, rfl, rfl⟩, ⟨rfl, rfl, rfl⟩⟩

/-! ### Loop, modes, charges and clock -/

theorem witness_reclaim :
    (let s := loopWith stocked ({ · with reclaim := true, discharge := some 9000 })
     s.lm.reclaim = true ∧ s.sa.debt = 0 ∧ s.sa.requests = Six.all false ∧ s.lm.discharge = some 9000) ∧
    stocked.lm.reclaim = false ∧ stocked.lm.discharge = none := ⟨⟨rfl, rfl, rfl, rfl⟩, rfl, rfl⟩

theorem witness_refill :
    stocked.lm.refills.get .bay1 = none ∧
    (let s := loopWith (bayWith stocked ({ · with state := .refilling, lineFilled := false })) fun l =>
       { l with heldLine := l.heldLine.set .bay1 0, refills := (Six.all none).set .bay1 (some ⟨.recycled, 120, 9000⟩) }
     s.lm.refills.get .bay1 = some ⟨.recycled, 120, 9000⟩ ∧ s.lm.mode = .opened ∧
       (s.bc.get .bay1).state = .refilling ∧ (s.bc.get .bay1).service = .inService ∧
       (s.bc.get .bay1).wheelStop = false ∧ (s.bc.get .bay1).rearBeam = false ∧ s.vq.queue = []) :=
  ⟨rfl, rfl, rfl, rfl, rfl, rfl, rfl, rfl⟩

theorem witness_persist :
    (let s := loopWith (washing dryRecord id) ({ · with mode := .hold, holdOrigin := some .frost, persist := some 9000 })
     s.lm.persist = some 9000 ∧ s.lm.mode = .hold ∧ s.anyWashing = true ∧ s.lm.drainPending = none) ∧
    (let s := loopWith stocked ({ · with persist := some 9000, drainPending := some .host })
     s.lm.persist = some 9000 ∧ s.lm.drainPending ≠ none) := by decide

/-- Bay 1 WASHING in HOLD with a drain pending, its phase waiting for a grant; bay 2 EMPTY, the others CLOSED. -/
def draining : State :=
  let s := washing wetRecord ({ · with stage := .paused, requested := true })
  { loopWith s ({ · with mode := .hold, holdOrigin := some .drain, drainPending := some .host, deferral := some 9000 }) with
    bc := s.bc.set .bay2 { s.bc.get .bay2 with state := .empty }
    sa := { s.sa with requests := s.sa.requests.set .bay1 true, purgeTimer := some 9500 } }

theorem witness_drain :
    stocked.lm.deferral = none ∧
    draining.lm.deferral = some 9000 ∧ LinesTold draining ∧ LanesIdle draining ∧ NoCall draining ∧
      (draining.bc.get .bay1).state = .washing ∧ (draining.bc.get .bay1).held = some 1 ∧
      Table.look draining.vq.visits 1 = some washingVisit ∧
      (∃ p, draining.plan? .bay1 = some p ∧ p.visit = 1 ∧ p.fresh = 0 ∧ p.recycled = 0) ∧
      draining.serving .bay1 = none ∧ draining.cu.posting = [] ∧ draining.cu.writing = none ∧
      draining.lm.vSet ≤ draining.dt.settings.pitCapacity ∧
      (∀ c, c ≠ .bay1 → draining.plan? c = none ∧
        ((draining.bc.get c).state = .closed ∨ (draining.bc.get c).state = .empty)) := by
  refine ⟨rfl, rfl, fun b => ?_, fun l => ?_, ⟨rfl, rfl⟩, rfl, rfl, rfl, ⟨_, rfl, rfl, rfl, rfl⟩, rfl, rfl, rfl, by decide,
    fun c h => ?_⟩
  · cases b <;> decide
  · cases l <;> rfl
  · cases c <;> first | exact absurd rfl h | decide

/-- Bay 1 FINISHING, the visit's write in progress. -/
def posting : State :=
  { bayWith queued ({ · with state := .finishing, held := some 1, wheelStop := true }) with
    vq := ⟨[(1, { washingVisit with state := .finished, permit := true })], [], [], 1⟩
    cu := { coldCharges with
      reservations := 1, posting := [.visit 1], writing := some (.visit ⟨5, 0, 0, 1215, 0, 0, 0, 0, 1215⟩) } }

theorem witness_chargePosted :
    stocked.cu.writing = none ∧
      (∃ p, posting.cu.writing = some (.visit p)) ∧ posting.cu.posting = [.visit 1] ∧
      (∃ v, Table.look posting.vq.visits 1 = some v ∧ v.bay = some .bay1 ∧ v.permit = true) ∧
      (posting.bc.get .bay1).wheelStop = true :=
  ⟨rfl, ⟨_, rfl⟩, rfl, ⟨_, rfl, rfl, rfl⟩, rfl⟩

theorem witness_price :
    washingVisit.axles = some 5 ∧ queuedVisit.axles = none ∧ queuedVisit.results = [] ∧
      (stocked.price queuedVisit).fresh = 0 ∧ ({ queuedVisit with account := none } : Visit).account = none ∧
      ({ queuedVisit with results := [fullResult] } : Visit).results ≠ [] ∧
      (∃ a tr, queuedVisit.account = some 530 ∧ Table.look stocked.dt.accounts 530 = some a ∧
        stocked.dt.tariffs.getTrf a.tariff = some tr ∧ a.periodVisits < tr.tier1.threshold) ∧
      stocked.dt.programmes.get .prog1 = some dryProgramme ∧ stocked.dt.programmes.get .prog2 = none ∧
      (∃ tr, stocked.dt.tariffs.getTrf .tariff0 = some tr) :=
  ⟨by decide, by decide, by decide, by decide, by decide, by decide, ⟨_, _, rfl, rfl, rfl, by decide⟩, rfl, rfl, ⟨_, rfl⟩⟩

theorem witness_ages :
    (∀ x ∈ ringed.cu.ring.entries, x.seq = (9 : Seq) → x.aged = true) ∧
      ringed.cu.ring.entries.find? (fun x => decide (x.seq = 6) && !x.aged) = some (dayEntry 6) := by decide

theorem witness_clockSecond :
    ({ stocked with clock := ⟨65535, 86398, 0⟩ } : State).clock.time < 86399 ∧
      86399 ≤ ({ stocked with clock := ⟨65535, 86399, 0⟩ } : State).clock.time := by decide

end Sys2Proof.Tests
end

section
/-!
The axle counter of a lane (R23 to R25): how it leaves NONE, and what a recognised passage does to the lane's record.
-/

namespace Sys2Proof.Proofs.Axle

open Sys2Proof Sys2Proof.Machine

/-! ## NONE -/

/-- The tables of the two modes have their NONE rows in common. -/
@[simp] theorem counterMove_none (m : AxleMode) (t : Treadle) (on other : Bool) :
    counterMove m .none t on other = (beginPassage t on other, .none) := by
  cases m <;> rfl

@[simp] theorem beginPassage_a_on : beginPassage .a true false = .passage .onA .forward := rfl

@[simp] theorem beginPassage_b_on : beginPassage .b true false = .passage .onB .reverse := rfl

@[simp] theorem beginPassage_off (t : Treadle) (other : Bool) : beginPassage t false other = .none := by
  cases t <;> rfl

/-- A treadle that a broken-off sequence left on keeps the other one from beginning a passage. -/
@[simp] theorem beginPassage_other_on (t : Treadle) (on : Bool) : beginPassage t on true = .none := by
  cases t <;> cases on <;> rfl

/-! ## The count (R25) -/

@[simp] theorem countPassage_none (r : LaneRecord) : r.countPassage .none = r := rfl

@[simp] theorem countPassage_reverse (r : LaneRecord) :
    r.countPassage .reverse = { r with count := r.count - 1, reverse := true } := rfl

theorem countPassage_forward_of_lt {r : LaneRecord} (h : r.count < 15) :
    r.countPassage .forward = { r with count := r.count + 1 } := if_pos h

theorem countPassage_forward_of_le {r : LaneRecord} (h : 15 ≤ r.count) :
    r.countPassage .forward = { r with axleSat := true } := if_neg (Nat.not_lt.mpr h)

/-! ## The tables -/

/-- Settles O35. The NONE rows and the count go by the lemmas above. Inside a passage the state fixes the other
treadle's level, so a row's move does not look at it: each row of R23 and of R24 is one branch of its mode's table. -/
theorem axleCounterMoves : Obligations.AxleCounterMoves := by
  refine ⟨fun m => ?noneRows, fun o => ?overlapRows, fun o => ?spacedRows, fun r => ?count⟩
  case noneRows => simp
  case overlapRows => exact ⟨rfl, rfl, rfl, rfl, rfl, rfl, rfl, rfl, rfl, rfl, rfl, rfl⟩
  case spacedRows => exact ⟨rfl, rfl, rfl, rfl, rfl, rfl, rfl, rfl, rfl, rfl, rfl, rfl⟩
  case count =>
    exact ⟨countPassage_forward_of_lt, countPassage_forward_of_le, countPassage_reverse r, countPassage_none r⟩

end Sys2Proof.Proofs.Axle
end

section
/-!
SET_ALLOWANCE (R134): what the write of the daily allowance leaves as it was, what the Blend Unit answers, and the command.
-/

namespace Sys2Proof.Proofs.Allowance

open Sys2Proof Sys2Proof.Machine

/-! ## The write -/

/-- The figure goes into the settings; used today and the reservations are read as they stood. -/
@[simp] theorem allowanceReply_setAllowance (s : State) (n : Nat) :
    (s.setAllowance n).allowanceReply =
      ⟨n, s.bu.usedToday, s.outstanding, (s.bu.reservations.toList.filterMap id).length,
        n - (s.bu.usedToday + s.outstanding)⟩ := rfl

/-! ## The owner (R134) -/

theorem owner_setAllowance_of_lt (s : State) {n : Nat} (h : 1000000 < n) :
    (Work.mk s []).owner (.setAllowance (.fields n)) = (⟨s, []⟩, .ready .range .none) := if_pos h

theorem owner_setAllowance_of_le (s : State) {n : Nat} (h : n ≤ 1000000) :
    (Work.mk s []).owner (.setAllowance (.fields n)) =
      (⟨s.setAllowance n, []⟩, .ready .ok (.allowance (s.setAllowance n).allowanceReply)) :=
  if_neg (Nat.not_lt.mpr h)

/-! ## The holding list -/

/-- A request taken at once leaves the holding list as it came: empty. -/
theorem holdingOne_emptied {s : State} (hh : s.lp.holding = []) (tag : Byte) (r : Request) :
    ((s.holdingOne tag r).modLink fun l => { l with holding := [] }) = s := by
  simp [State.holdingOne, State.modLink, ← hh]

/-- The write of the allowance does not look at the Link Port, so it may be taken on the state as the request met it. -/
theorem setAllowance_holdingOne_emptied {s : State} (hh : s.lp.holding = []) (n : Nat) (tag : Byte) (r : Request) :
    (((s.holdingOne tag r).setAllowance n).modLink fun l => { l with holding := [] }) = s.setAllowance n :=
  congrArg (·.setAllowance n) (holdingOne_emptied hh tag r)

/-! ## The command -/

theorem exec_setAllowance (tag : Byte) (body : Body Nat) (s : State) :
    exec (.setAllowance tag body) s = .next (s.offer tag (.setAllowance body)) := rfl

theorem offer_setAllowance_of_lt {s : State} (hs : Safety.LinkReady s) (tag : Byte) {n : Nat} (h : 1000000 < n) :
    s.offer tag (.setAllowance (.fields n)) = s.answer ⟨0x92, tag, .range, .none⟩ := by
  obtain ⟨hh, hr⟩ := hs
  rw [request_plain hh hr (owner_setAllowance_of_lt _ h) rfl, holdingOne_emptied hh]
  rfl

theorem offer_setAllowance_of_le {s : State} (hs : Safety.LinkReady s) (tag : Byte) {n : Nat} (h : n ≤ 1000000) :
    s.offer tag (.setAllowance (.fields n)) =
      (s.setAllowance n).answer ⟨0x92, tag, .ok, .allowance (s.setAllowance n).allowanceReply⟩ := by
  obtain ⟨hh, hr⟩ := hs
  rw [request_plain hh hr (owner_setAllowance_of_le _ h) rfl, setAllowance_holdingOne_emptied hh]
  rfl

/-- Settles O26. A body above the bound is answered with the code alone; any other is written before the reply is
formed, and the write changes nothing that the reply reads but the figure itself. -/
theorem allowanceSet : Obligations.AllowanceSet := by
  intro tag n s hs
  refine ⟨fun h => ?range, fun h => ?written⟩
  case range => rw [exec_setAllowance, offer_setAllowance_of_lt hs tag h]
  case written =>
    rw [exec_setAllowance, offer_setAllowance_of_le hs tag h, allowanceReply_setAllowance]
    rfl

end Sys2Proof.Proofs.Allowance
end

section
/-!
What every operation of the model keeps: the queue of commands, and each of the five invariants of the part on its own.
One rule for each setter of the state, then one lemma for each operation in the order of the model's files, up to the
command; the four statements on a step are read off at the end.
-/

namespace Sys2Proof.Proofs.Invariants

open Sys2Proof Sys2Proof.Machine Sys2Proof.Safety

-- One declaration at a time: with a thread for each proof the compile of the whole text asks for more stacks than the
-- check's memory limit grants.
set_option Elab.async false

/-- From `s` to `t` the queue of commands stands, and each invariant that holds in `s` holds in `t`. -/
structure Keeps (s t : State) : Prop where
  queue : t.pending = s.pending
  loop : LoopSound s → LoopSound t
  link : LinkSound s → LinkSound t
  tables : TablesSound s → TablesSound t
  lanes : LanesSound s → LanesSound t
  supply : SupplySound s → SupplySound t

@[refl] theorem Keeps.refl (s : State) : Keeps s s := ⟨rfl, id, id, id, id, id⟩

theorem Keeps.trans {s t u : State} (h : Keeps s t) (k : Keeps t u) : Keeps s u where
  queue := k.queue.trans h.queue
  loop := k.loop ∘ h.loop
  link := k.link ∘ h.link
  tables := k.tables ∘ h.tables
  lanes := k.lanes ∘ h.lanes
  supply := k.supply ∘ h.supply

/-- The last operation first, as the model's definitions are read. -/
theorem Keeps.after {s t u : State} (k : Keeps t u) (h : Keeps s t) : Keeps s u := h.trans k

/-- An operation repeated along a list keeps what it keeps once. -/
theorem Keeps.foldl {α β : Type} (view : β → State) {f : β → α → β} (h : ∀ x a, Keeps (view x) (view (f x a)))
    (l : List α) (x : β) : Keeps (view x) (view (l.foldl f x)) := by
  induction l generalizing x with
  | nil => exact .refl _
  | cons a l ih => exact (h x a).trans (ih (f x a))

/-- What holds of an operation on the state holds of it as the work of a command. -/
theorem Keeps.upd {s : State} {w : Work} {f : State → State} (h : Keeps s (f w.s)) : Keeps s (w.upd f).s := h

/-- What waits to be taken does not count. -/
theorem Keeps.later {s : State} {w : Work} {ts : List Task} (h : Keeps s w.s) : Keeps s (w.after ts).s := h

/-! ## The setters -/

theorem keeps_reach (s : State) (t : Nat) : Keeps s (s.reach t) := ⟨rfl, id, id, id, id, id⟩

theorem keeps_useFresh (s : State) : Keeps s s.useFresh := ⟨rfl, id, id, id, id, id⟩

theorem keeps_modSampler (s : State) (f : Sampler → Sampler) : Keeps s (s.modSampler f) := ⟨rfl, id, id, id, id, id⟩

theorem keeps_modCharges (s : State) (f : Charges → Charges) : Keeps s (s.modCharges f) := ⟨rfl, id, id, id, id, id⟩

theorem keeps_modQueue (s : State) (f : List Nat → List Nat) : Keeps s (s.modQueue f) := ⟨rfl, id, id, id, id, id⟩

theorem keeps_modCalled (s : State) (f : List Nat → List Nat) : Keeps s (s.modCalled f) := ⟨rfl, id, id, id, id, id⟩

theorem keeps_reserve (s : State) (b : Bay) (n : Nat) : Keeps s (s.reserve b n) := ⟨rfl, id, id, id, id, id⟩

theorem keeps_settleFresh (s : State) (b : Bay) (n : Nat) : Keeps s (s.settleFresh b n) := ⟨rfl, id, id, id, id, id⟩

theorem keeps_allowanceMidnight (s : State) : Keeps s s.allowanceMidnight := ⟨rfl, id, id, id, id, id⟩

theorem keeps_clock (s : State) (c : Clock) : Keeps s { s with clock := c } := ⟨rfl, id, id, id, id, id⟩

theorem keeps_modLink {s : State} {f : Link → Link} (h : LinkSound s → LinkSound (s.modLink f)) :
    Keeps s (s.modLink f) := ⟨rfl, id, h, id, id, id⟩

/-- A change of the link outside its queues and its transmitter. -/
theorem keeps_modLink_frame {s : State} {f : Link → Link}
    (h : ∀ l, (f l).holding = l.holding ∧ (f l).replies = l.replies ∧ (f l).notices = l.notices ∧ (f l).tx = l.tx := by
      exact fun _ => ⟨rfl, rfl, rfl, rfl⟩) :
    Keeps s (s.modLink f) := by
  obtain ⟨hh, hr, hn, ht⟩ := h s.lp
  refine keeps_modLink ?_
  simp only [LinkSound, State.modLink_lp, hh, hr, hn, ht]
  exact id

theorem keeps_modTables {s : State} {f : DepotTables → DepotTables}
    (hc : s.dt.settings.carryOff ≤ 1000 → (f s.dt).settings.carryOff ≤ 1000)
    (ha : Table.wf s.dt.accounts = true → Table.wf (f s.dt).accounts = true)
    (ht : Table.wf s.dt.tags = true → Table.wf (f s.dt).tags = true) : Keeps s (s.modTables f) where
  queue := rfl
  loop := fun ⟨hb, hl, hs⟩ => ⟨hb, hl, hc hs⟩
  link := id
  tables := fun ⟨h1, h2, h3⟩ => ⟨ha h1, ht h2, h3⟩
  lanes := id
  supply := id

theorem keeps_modVisits {s : State} {f : Table Visit → Table Visit}
    (h : ∀ t, Table.wf t = true → Table.wf (f t) = true) : Keeps s (s.modVisits f) :=
  ⟨rfl, id, id, fun ⟨h1, h2, h3⟩ => ⟨h1, h2, h _ h3⟩, id, id⟩

theorem keeps_modVisit (s : State) (n : Nat) (f : Visit → Visit) : Keeps s (s.modVisit n f) :=
  keeps_modVisits fun t => Table.wf_upd t n f

/-- The bounds of one lane (R25, R26). -/
def LaneFits (r : LaneRecord) : Prop := r.count ≤ 15 ∧ r.tags.length ≤ 4 ∧ r.tags.Nodup

theorem keeps_modLane {s : State} {l : Lane} {f : LaneRecord → LaneRecord}
    (h : ∀ r, LaneFits r → LaneFits (f r) := by exact fun _ => id) : Keeps s (s.modLane l f) := by
  refine ⟨rfl, id, id, id, fun hs m => ?_, id⟩
  by_cases hm : m = l
  · subst hm
    rw [State.modLane_gu, Pair.get_set_same]
    exact h _ (hs m)
  · rw [State.modLane_gu, Pair.get_set_ne _ _ _ _ hm]
    exact hs m

theorem keeps_modArbiter {s : State} {f : Arbiter → Arbiter} (hd : s.sa.debt ≤ 3 → (f s.sa).debt ≤ 3)
    (hp : s.sa.priority.Perm Bay.all → (f s.sa).priority.Perm Bay.all) : Keeps s (s.modArbiter f) :=
  ⟨rfl, id, id, id, id, fun ⟨h1, h2⟩ => ⟨hd h1, hp h2⟩⟩

/-- A change of the arbiter outside the debt and the priority order. -/
theorem keeps_modArbiter_frame {s : State} {f : Arbiter → Arbiter}
    (h : ∀ a, (f a).debt = a.debt ∧ (f a).priority = a.priority := by exact fun _ => ⟨rfl, rfl⟩) : Keeps s (s.modArbiter f) := by
  obtain ⟨hd, hp⟩ := h s.sa
  exact keeps_modArbiter (by rw [hd]; exact id) (by rw [hp]; exact id)

/-! ## The book of the loop -/

/-- The loop's invariant rests on the two sides, on the line-filled flags with the held lines and the refills, and on the
carry-off. -/
theorem loopSound_of {s t : State} (hb : t.leftSide - t.lm.rightSide = s.leftSide - s.lm.rightSide)
    (hl : LinesTold s → LinesTold t) (hc : t.settings.carryOff = s.settings.carryOff) (h : LoopSound s) :
    LoopSound t := by
  obtain ⟨hbal, hlines, hcarry⟩ := h
  refine ⟨?_, hl hlines, ?_⟩
  · unfold Safety.Balanced at *
    omega
  · unfold CarryOffFits
    rwa [hc]

theorem linesTold_of {s t : State} (hf : ∀ b, (t.bc.get b).lineFilled = (s.bc.get b).lineFilled)
    (hh : t.lm.heldLine = s.lm.heldLine) (hr : t.lm.refills = s.lm.refills) (h : LinesTold s) : LinesTold t := by
  intro b
  rw [hf, hh, hr]
  exact h b

/-- A booking that moves both sides alike and leaves lines and refills. -/
theorem keeps_modLoop {s : State} {f : Loop → Loop}
    (hb : (f s.lm).vSet + (f s.lm).vRec - (f s.lm).rightSide = s.lm.vSet + s.lm.vRec - s.lm.rightSide)
    (hh : (f s.lm).heldLine = s.lm.heldLine) (hr : (f s.lm).refills = s.lm.refills) : Keeps s (s.modLoop f) := by
  refine ⟨rfl, loopSound_of ?_ (linesTold_of (fun _ => rfl) hh hr) rfl, id, id, id, id⟩
  simp only [State.leftSide, State.vLines, State.vBays, State.modLoop_lm, State.modLoop_pr, hh]
  omega

/-- A change of the loop outside its volumes, its lines and its refills. -/
theorem keeps_modLoop_frame {s : State} {f : Loop → Loop}
    (h : ∀ l, (f l).vSet = l.vSet ∧ (f l).vRec = l.vRec ∧ (f l).rightSide = l.rightSide ∧
      (f l).heldLine = l.heldLine ∧ (f l).refills = l.refills := by exact fun _ => ⟨rfl, rfl, rfl, rfl, rfl⟩) : Keeps s (s.modLoop f) := by
  obtain ⟨h1, h2, h3, h4, h5⟩ := h s.lm
  exact keeps_modLoop (by rw [h1, h2, h3]) h4 h5

theorem lineFilled_modBay {s : State} {b : Bay} {f : BayRecord → BayRecord}
    (h : (f (s.bc.get b)).lineFilled = (s.bc.get b).lineFilled) (c : Bay) :
    ((s.modBay b f).bc.get c).lineFilled = (s.bc.get c).lineFilled := by
  by_cases hc : c = b
  · subst hc
    rwa [State.modBay_bc, Six.get_set_same]
  · rw [State.modBay_bc, Six.get_set_ne _ _ _ _ hc]

/-- A change of a bay outside its line-filled flag. -/
theorem keeps_modBay {s : State} {b : Bay} {f : BayRecord → BayRecord}
    (h : (f (s.bc.get b)).lineFilled = (s.bc.get b).lineFilled := by rfl) : Keeps s (s.modBay b f) :=
  ⟨rfl, loopSound_of rfl (linesTold_of (lineFilled_modBay h) rfl rfl) rfl, id, id, id, id⟩

theorem vBays_modRunner (s : State) (b : Bay) (f : BayRunner → BayRunner) :
    (s.modRunner b f).vBays + runDelivered (s.pr.get b) = s.vBays + runDelivered (f (s.pr.get b)) := by
  cases b <;>
    simp only [State.vBays, State.modRunner, Six.set, Six.get, Six.toList, List.map_cons, List.map_nil,
      List.sum_cons, List.sum_nil] <;>
    omega

theorem vBays_modRunner_same {s : State} {b : Bay} {f : BayRunner → BayRunner}
    (h : runDelivered (f (s.pr.get b)) = runDelivered (s.pr.get b)) : (s.modRunner b f).vBays = s.vBays := by
  have := vBays_modRunner s b f
  omega

/-- A change of a phase run outside its delivered water. -/
theorem keeps_modRunner {s : State} {b : Bay} {f : BayRunner → BayRunner}
    (h : runDelivered (f (s.pr.get b)) = runDelivered (s.pr.get b)) : Keeps s (s.modRunner b f) := by
  refine ⟨rfl, loopSound_of ?_ (linesTold_of (fun _ => rfl) rfl rfl) rfl, id, id, id, id⟩
  simp only [State.leftSide, vBays_modRunner_same h]
  rfl

/-- The water that a running phase has delivered. -/
def delivered (p : PhaseRun) : Nat := p.fresh + p.recycled

theorem runDelivered_some (p : PhaseRun) (n : Nat) : runDelivered ⟨some p, n⟩ = delivered p := rfl

theorem keeps_modPlan {s : State} {b : Bay} {f : PhaseRun → PhaseRun}
    (h : ∀ p, delivered (f p) = delivered p := by exact fun _ => rfl) : Keeps s (s.modPlan b f) := by
  refine keeps_modRunner ?_
  rcases hr : s.pr.get b with ⟨_ | p, n⟩
  · rfl
  · exact h p

theorem vBays_modPlan_add {s : State} {b : Bay} {p : PhaseRun} {f : PhaseRun → PhaseRun} {k : Nat}
    (hp : s.plan? b = some p) (h : delivered (f p) = delivered p + k) : (s.modPlan b f).vBays = s.vBays + k := by
  have hv := vBays_modRunner s b fun r => { r with plan := r.plan.map f }
  unfold State.plan? at hp
  have h1 : runDelivered (s.pr.get b) = delivered p := by simp [runDelivered, hp, delivered]
  have h2 : runDelivered { s.pr.get b with plan := (s.pr.get b).plan.map f } = delivered p + k := by
    rw [← h, hp]
    rfl
  rw [h1, h2] at hv
  unfold State.modPlan
  omega

/-! ## Link -/

theorem keeps_notify (s : State) (n : Notice) : Keeps s (s.notify n) := by
  refine keeps_modLink fun ⟨hh, hn, _⟩ => ⟨?_, ?_, ?_⟩
  · simpa using hh
  · exact (Link.pump_notices_le _).trans (Link.pushNotice_le _ _ hn)
  · exact Link.pump_idle _

theorem keeps_answer (s : State) (r : Reply) : Keeps s (s.answer r) := by
  refine keeps_modLink fun ⟨hh, hn, _⟩ => ⟨?_, ?_, ?_⟩
  · simpa using hh
  · exact (Link.pump_notices_le _).trans hn
  · exact Link.pump_idle _

/-! ## Volumes -/

theorem keeps_decideReclaim (s : State) : Keeps s s.decideReclaim :=
  keeps_modLoop_frame

theorem keeps_overflow (s : State) (c : OverflowCause) : Keeps s (s.overflow c) := by
  by_cases h : s.lm.vSet ≤ (s.settings.pitCapacity : Int)
  · have : s.overflow c = s := if_pos h
    rw [this]
  · have : s.overflow c = _ := if_neg h
    rw [this]
    refine ((keeps_modLoop ?_ rfl rfl).trans (keeps_modCharges _ _)).trans (keeps_notify _ _)
    simp only [Loop.rightSide]
    omega

theorem keeps_purgeTransfer (s : State) : Keeps s s.purgeTransfer := by
  refine ((keeps_modLoop ?_ rfl rfl).trans (keeps_overflow _ _)).trans (keeps_decideReclaim _)
  simp only [Loop.rightSide]
  omega

theorem keeps_discharge (s : State) (n : Nat) : Keeps s (s.discharge n) := by
  refine ((keeps_modLoop ?_ rfl rfl).trans (keeps_modCharges _ _)).trans (keeps_decideReclaim _)
  simp only [Loop.rightSide]
  omega

theorem keeps_reclaimPulse (w : Work) : Keeps w.s w.reclaimPulse.s := by
  unfold Work.reclaimPulse
  split
  · refine (keeps_modLoop ?_ rfl rfl).trans (keeps_decideReclaim _)
    simp only [Loop.rightSide]
    omega
  · exact .upd keeps_modLoop_frame

theorem pr_map_none {s : State} (h : s.pr.toList.any (·.plan.isSome) = false) : s.vBays = 0 := by
  simp only [Six.toList, List.any_cons, List.any_nil, Bool.or_false, Bool.or_eq_false_iff, Option.isSome_eq_false_iff,
    Option.isNone_iff_eq_none] at h
  obtain ⟨h1, h2, h3, h4, h5, h6⟩ := h
  simp [State.vBays, Six.toList, runDelivered, h1, h2, h3, h4, h5, h6]

/-- A trim sets V0 to the water that is there; no phase has any (R166). -/
theorem keeps_trim {s : State} (h : s.trimBlocked = false) : Keeps s s.trim := by
  refine Keeps.trans (t := s.modLoop _) ?_ (keeps_decideReclaim _)
  refine ⟨rfl, fun hs => ⟨?_, hs.2.1, hs.2.2⟩, id, id, id, id⟩
  have hv : s.vBays = 0 := by
    refine pr_map_none ?_
    simp only [State.trimBlocked, Bool.or_eq_false_iff] at h
    exact h.1.1.1.1.1
  simp only [Safety.Balanced, State.leftSide, State.vLines, State.vBays, State.modLoop_lm, State.modLoop_pr,
    Loop.rightSide] at hv ⊢
  omega

theorem get_set (v : Six α) (b c : Bay) (x : α) : (v.set b x).get c = if c = b then x else v.get c := by
  split
  · subst_vars
    exact Six.get_set_same _ _ _
  · exact Six.get_set_ne _ _ _ _ ‹_›

/-- A refill starts for a bay whose lines are empty (R167). -/
theorem keeps_startRefill {s : State} {b : Bay} (h : (s.bc.get b).lineFilled = false) : Keeps s (s.startRefill b) := by
  refine ⟨rfl, loopSound_of rfl (fun hl c => ⟨(hl c).1, fun hr => ?_⟩) rfl, id, id, id, id⟩
  by_cases hc : c = b
  · subst hc
    exact h
  · refine (hl c).2 ?_
    simpa only [State.startRefill, State.modLoop_lm, get_set, if_neg hc] using hr

/-- A refill in flight is booked into a line that held nothing (R167). -/
theorem keeps_bookRefill {s : State} {b : Bay} {r : Refill} (h : s.lm.refills.get b ≠ none) :
    Keeps s (s.bookRefill b r) := by
  refine ⟨rfl, fun hs => ?_, id, id, id, id⟩
  have hempty : s.lm.heldLine.get b = 0 := (hs.2.1 b).1 ((hs.2.1 b).2 h)
  refine loopSound_of (bookRefill_balance s b r hempty) (fun hl c => ?_) rfl hs
  simp only [State.bookRefill, State.modBay_bc, State.modBay_lm, State.modLoop_bc, State.modLoop_lm, get_set]
  split
  · simp
  · exact hl c

theorem keeps_drainLine (s : State) (b : Bay) : Keeps s (s.drainLine b) := by
  refine ⟨rfl, loopSound_of (drainLine_balance s b) (fun hl c => ?_) rfl, id, id, id, id⟩
  simp only [State.drainLine, State.modBay_bc, State.modBay_lm, State.modLoop_bc, State.modLoop_lm, get_set]
  split
  · simp
  · exact hl c

/-- A phase end takes its delivered water out of V_bays and returns it to the loop less its carry-off (R98, R162). -/
theorem keeps_closePhase {s : State} {b : Bay} {p : PhaseRun} (h : s.plan? b = some p) (cause : PhaseCause) :
    Keeps s (s.closePhase b p cause) := by
  unfold State.closePhase
  refine Keeps.trans ?_ ((keeps_settleFresh _ b p.fresh).trans (keeps_modVisit _ _ _))
  have hret : ∀ t : State, ∀ d, t.phaseReturn b d = ((t.modLoop fun l =>
      { l with carried := l.carried + t.carryOff d,
               vSet := l.vSet + (d - t.carryOff d : Nat) }).overflow (.phase b)).decideReclaim := fun _ _ => rfl
  have hrest := ((keeps_overflow ((s.modRunner b fun r => { r with plan := none }).modLoop fun l =>
    { l with carried := l.carried + s.carryOff (p.fresh + p.recycled),
             vSet := l.vSet + (p.fresh + p.recycled - s.carryOff (p.fresh + p.recycled) : Nat) }) (.phase b)).trans
    (keeps_decideReclaim _))
  rw [hret]
  refine ⟨hrest.queue, fun hs => hrest.loop ⟨?_, hs.2.1, hs.2.2⟩, hrest.link, hrest.tables, hrest.lanes, hrest.supply⟩
  have hc : s.carryOff (p.fresh + p.recycled) ≤ p.fresh + p.recycled := by
    unfold State.carryOff
    exact Nat.div_le_of_le_mul (by rw [Nat.mul_comm 1000]; exact Nat.mul_le_mul_left _ hs.2.2)
  have hv := vBays_modRunner s b fun r => { r with plan := none }
  unfold State.plan? at h
  simp only [runDelivered, h] at hv
  have hb := hs.1
  simp only [Safety.Balanced, State.leftSide, State.vLines, Loop.rightSide] at hb ⊢
  have hv' : ∀ f, ((s.modRunner b fun r => { r with plan := none }).modLoop f).vBays =
      (s.modRunner b fun r => { r with plan := none }).vBays := fun _ => rfl
  rw [hv']
  simp only [State.modLoop_lm, State.modRunner_lm]
  omega

/-! ## Readings and the converter -/

theorem keeps_dropDemand (s : State) (b : Bay) : Keeps s (s.dropDemand b) := keeps_modSampler _ _

theorem keeps_dropAnswered (s : State) (l : List (Bay × ReadingsUsed)) : Keeps s (s.dropAnswered l) :=
  Keeps.foldl id (fun _ _ => keeps_dropDemand _ _) l s

theorem keeps_choose (s : State) (d : Bool) : Keeps s (s.choose d) := by
  unfold State.choose
  split <;> exact keeps_modSampler _ _

theorem keeps_chooseIfIdle (s : State) : Keeps s s.chooseIfIdle := by
  unfold State.chooseIfIdle
  split
  · exact keeps_choose _ _
  · exact .refl s

theorem keeps_demand (w : Work) (b : Bay) : Keeps w.s (w.demand b).s := by
  unfold Work.demand
  dsimp only
  split
  · exact .refl _
  · exact .upd ((keeps_modSampler _ _).trans (keeps_chooseIfIdle _))

theorem keeps_completeConversion (w : Work) (ch : Channel) (code : BitVec 10) :
    Keeps w.s (w.completeConversion ch code).s := by
  unfold Work.completeConversion
  refine Keeps.trans ?_ (keeps_dropAnswered _ _)
  split
  · exact keeps_modSampler _ _
  · exact (keeps_modSampler _ _).trans (keeps_modSampler _ _)

theorem keeps_discardCh1 (s : State) : Keeps s s.discardCh1 := by
  unfold State.discardCh1
  split
  · exact keeps_choose _ _
  · exact .refl s

theorem keeps_holdCh1 (s : State) : Keeps s s.holdCh1 := by
  unfold State.holdCh1
  exact .after (keeps_modSampler _ _) (.after (keeps_discardCh1 _) (keeps_modSampler _ _))

theorem keeps_holdTurbidity (w : Work) : Keeps w.s w.holdTurbidity.s :=
  .after (keeps_dropAnswered _ _) (keeps_holdCh1 _)

theorem keeps_endHold (s : State) : Keeps s s.endHold := (keeps_modSampler _ _).trans (keeps_chooseIfIdle _)

/-! ## The stages of a phase -/

theorem delivered_startNozzle (p : PhaseRun) (now : Nat) : delivered (p.startNozzle now) = delivered p := by
  unfold PhaseRun.startNozzle
  split
  · split <;> rfl
  · rfl

theorem delivered_freezeNozzle (p : PhaseRun) (now : Nat) : delivered (p.freezeNozzle now) = delivered p := by
  unfold PhaseRun.freezeNozzle
  split <;> rfl

theorem delivered_nozzleMove (p : PhaseRun) (now : Nat) : delivered (p.nozzleMove now) = delivered p := by
  unfold PhaseRun.nozzleMove
  split
  · rfl
  · rfl
  · rfl
  · dsimp only
    split <;> rfl

theorem delivered_run (p : PhaseRun) (now : Nat) : delivered (p.run now) = delivered p := delivered_startNozzle _ now

theorem delivered_pause (p : PhaseRun) (now : Nat) : delivered (p.pause now) = delivered p := delivered_freezeNozzle _ now

theorem delivered_granted (p : PhaseRun) (now : Nat) (ch : Supply) : delivered (p.granted now ch) = delivered p := by
  unfold PhaseRun.granted
  split
  · exact delivered_run p now
  · rfl

theorem delivered_lostGrant (p : PhaseRun) (now : Nat) : delivered (p.lostGrant now) = delivered p := by
  unfold PhaseRun.lostGrant
  split
  · exact delivered_pause p now
  · rfl

theorem delivered_begin (visit number length now : Nat) (r : PhaseRecord) :
    delivered (PhaseRun.begin visit number length now r) = 0 := rfl

/-! ## The supply -/

theorem keeps_setChannel (s : State) (ch : Supply) (c : SupplyState) : Keeps s (s.setChannel ch c) :=
  keeps_modArbiter_frame

theorem keeps_toRunOn (s : State) (ch : Supply) : Keeps s (s.toRunOn ch) := by
  unfold State.toRunOn
  split <;> exact keeps_setChannel _ _ _

theorem keeps_freeChannel (w : Work) (ch : Supply) : Keeps w.s (w.freeChannel ch).s := keeps_toRunOn _ _

theorem keeps_setRequest (s : State) (b : Bay) (x : Bool) : Keeps s (s.setRequest b x) := keeps_modArbiter_frame

theorem keeps_requestDraw (w : Work) (b : Bay) : Keeps w.s (w.requestDraw b).s := by
  unfold Work.requestDraw
  split
  · exact .refl _
  · exact keeps_setRequest _ _ _

theorem keeps_leaveSupply (w : Work) (b : Bay) : Keeps w.s (w.leaveSupply b).s := by
  have h : Keeps w.s (w.upd (·.setRequest b false)).s := keeps_setRequest w.s b false
  unfold Work.leaveSupply
  dsimp only
  split
  · exact h.trans (keeps_freeChannel _ _)
  · exact h

theorem keeps_grant (s : State) (ch : Supply) (b : Bay) : Keeps s (s.grant ch b) :=
  (keeps_setChannel _ _ _).trans (keeps_modPlan fun p => delivered_granted p _ _)

/-- A bay that moves to the end of the order is still in it once (R141). -/
theorem perm_moveToEnd {l : List Bay} (b : Bay) (h : l.Perm Bay.all) :
    (l.filter (fun c => decide (c ≠ b)) ++ [b]).Perm Bay.all := by
  have hall : (Bay.all.filter (fun c => decide (c ≠ b)) ++ [b]).Perm Bay.all := by
    cases b <;> decide
  exact ((h.filter _).append_right [b]).trans hall

theorem keeps_takeTurn (s : State) (b : Bay) : Keeps s (s.takeTurn b) :=
  keeps_modArbiter id (perm_moveToEnd b)

theorem keeps_allot (s : State) (ch : Supply) (b : Bay) : Keeps s (s.allot ch b) := by
  unfold State.allot
  refine (keeps_takeTurn s b).trans ?_
  dsimp only
  split
  · exact keeps_grant _ _ _
  · exact keeps_setChannel _ _ _

theorem keeps_grantOne (s : State) : Keeps s s.grantOne := by
  unfold State.grantOne
  split
  · exact keeps_allot _ _ _
  · exact .refl s

theorem keeps_grantPass (w : Work) : Keeps w.s w.grantPass.s := (keeps_grantOne _).trans (keeps_grantOne _)

theorem keeps_rejoin (s : State) (ch : Supply) (b : Bay) : Keeps s (s.rejoin ch b) :=
  (keeps_setRequest _ _ _).trans (keeps_toRunOn _ _)

theorem keeps_withdrawGrant (s : State) (ch : Supply) (b : Bay) : Keeps s (s.withdrawGrant ch b) :=
  (keeps_modPlan fun p => delivered_lostGrant p _).trans (keeps_rejoin _ _ _)

theorem keeps_cutDraw (w : Work) (ch : Supply) (b : Bay) : Keeps w.s (w.cutDraw ch b).s := keeps_withdrawGrant _ _ _

theorem keeps_firstPulse (s : State) (b : Bay) : Keeps s (s.firstPulse b) := by
  unfold State.firstPulse
  split
  · exact .refl s
  · split
    · exact keeps_setChannel _ _ _
    · exact .refl s

theorem keeps_endOfWindow (s : State) (ch : Supply) : Keeps s (s.endOfWindow ch) := by
  unfold State.endOfWindow
  split
  · exact keeps_rejoin _ _ _
  · exact keeps_withdrawGrant _ _ _
  · exact keeps_withdrawGrant _ _ _
  · exact .refl s

theorem keeps_startPurge (w : Work) : Keeps w.s w.startPurge.s :=
  Keeps.trans (t := (w.upd (·.putPurge)).s) (.upd keeps_modArbiter_frame) (keeps_holdTurbidity _)

theorem keeps_purgeTest (w : Work) : Keeps w.s w.purgeTest.s := by
  unfold Work.purgeTest
  split
  · exact keeps_startPurge w
  · exact .refl _

theorem keeps_completePurge (w : Work) (cart : Cart) : Keeps w.s (w.completePurge cart).s := by
  refine Keeps.trans ?_ (keeps_notify _ _)
  refine Keeps.trans ?_ (keeps_modCharges _ _)
  refine Keeps.trans ?_ (keeps_modSampler _ _)
  refine Keeps.trans ?_ (keeps_modArbiter (s := (w.s.modArbiter fun a => { a with purge := none }).purgeTransfer) ?_ ?_)
  · exact (keeps_modArbiter_frame (s := w.s)).trans (keeps_purgeTransfer _)
  · dsimp only
    omega
  · exact id

theorem keeps_startPurgeTimer (s : State) : Keeps s s.startPurgeTimer := keeps_modArbiter_frame

theorem keeps_purgeTimer (w : Work) : Keeps w.s w.purgeTimer.s := by
  refine Keeps.trans ?_ (keeps_startPurgeTimer _)
  exact keeps_modArbiter (fun _ => Nat.min_le_left 3 _) id

theorem keeps_startWindow (s : State) : Keeps s s.startWindow := keeps_modArbiter_frame

theorem keeps_endWindow (w : Work) : Keeps w.s w.endWindow.s := by
  have h : Keeps w.s ((w.upd fun s => (s.endOfWindow .supply1).endOfWindow .supply2).upd fun s =>
      s.modArbiter fun a => { a with cycle := .slot, cycleEnd := some (s.due s.settings.purgeDuration) }).s :=
    ((keeps_endOfWindow w.s .supply1).trans (keeps_endOfWindow _ .supply2)).trans (.upd keeps_modArbiter_frame)
  unfold Work.endWindow
  dsimp only
  split
  · exact h.trans (keeps_startPurge _)
  · exact h

theorem keeps_endSlot (w : Work) : Keeps w.s w.endSlot.s := keeps_startWindow _

theorem keeps_leadChange (w : Work) (old new : LeadMode) : Keeps w.s (w.leadChange old new).s := by
  unfold Work.leadChange
  split
  · exact keeps_startWindow _
  · exact .upd keeps_modArbiter_frame
  · exact .refl _

theorem keeps_resetCut (w : Work) (ch : Supply) : Keeps w.s (w.resetCut ch).s := by
  unfold Work.resetCut
  split
  · dsimp only
    split
    · exact keeps_cutDraw _ _ _
    · exact keeps_setChannel _ _ _
  · exact .refl _

theorem keeps_supplyMode (w : Work) (new : DepotMode) : Keeps w.s (w.supplyMode new).s := by
  have h : Keeps w.s (if circulates new then (if w.s.sa.purgeTimer.isSome then w.s else w.s.startPurgeTimer)
      else w.s.modArbiter fun a => { a with purgeTimer := none }) := by
    split
    · split
      · exact .refl _
      · exact keeps_startPurgeTimer _
    · exact keeps_modArbiter_frame
  unfold Work.supplyMode
  dsimp only
  split <;> exact h

/-! ## Lanes -/

theorem keeps_clearLane (s : State) (l : Lane) : Keeps s (s.clearLane l) :=
  keeps_modLane fun _ _ => ⟨Nat.zero_le _, Nat.zero_le _, List.nodup_nil⟩

theorem keeps_startStall (s : State) (l : Lane) : Keeps s (s.startStall l) := keeps_modLane

theorem keeps_occupy (s : State) (l : Lane) : Keeps s (s.occupy l) :=
  .after (keeps_startStall _ _) keeps_modLane

theorem keeps_enrol (s : State) (n : Nat) (v : Visit) : Keeps s (s.enrol n v) :=
  ⟨rfl, id, id, fun ⟨h1, h2, h3⟩ => ⟨h1, h2, Table.wf_put _ _ _ h3⟩, id, id⟩

theorem keeps_refuse (s : State) (l : Lane) (reason : RefuseReason) (o : Bool) : Keeps s (s.refuse l reason o) :=
  .after (keeps_notify _ _) (.after (keeps_startStall _ _) keeps_modLane)

theorem keeps_holdWaiting (s : State) (l : Lane) (o : Bool) : Keeps s (s.holdWaiting l o) := by
  unfold State.holdWaiting
  split
  · exact .refl s
  · exact keeps_modLane

theorem keeps_admission (s : State) (l : Lane) (i : Identity) (o : Bool) : Keeps s (s.admission l i o) :=
  .after (keeps_notify _ _) (.after keeps_modLane (.after (keeps_modQueue _ (· ++ [s.newNumber])) (keeps_enrol s _ _)))

theorem keeps_decideLane (w : Work) (l : Lane) (o : Bool) : Keeps w.s (w.decideLane l o).1.s := by
  unfold Work.decideLane
  dsimp only
  split
  · exact keeps_refuse _ _ _ _
  · split
    · exact keeps_holdWaiting _ _ _
    · exact keeps_admission _ _ _ _

theorem keeps_redecide (w : Work) (l : Lane) (o : Bool) : Keeps w.s (w.redecide l o).s := keeps_decideLane w l o

theorem keeps_retry (w : Work) (l : Lane) : Keeps w.s (w.retry l).s := by
  unfold Work.retry
  split
  · exact keeps_redecide _ _ _
  · exact .refl _

theorem keeps_arrive (w : Work) (l : Lane) : Keeps w.s (w.arrive l).s := by
  have h : Keeps w.s (w.upd (·.occupy l)).s := keeps_occupy _ _
  unfold Work.arrive
  dsimp only
  split
  · exact h.trans (keeps_redecide _ _ _)
  · exact h

theorem keeps_testRefused (s : State) (l : Lane) : Keeps s (s.testRefused l) := by
  unfold State.testRefused
  dsimp only
  split
  · exact keeps_clearLane _ _
  · exact .refl s

theorem keeps_treadleEvent (w : Work) (l : Lane) : Keeps w.s (w.treadleEvent l).s := by
  unfold Work.treadleEvent
  split
  · exact keeps_arrive _ _
  · exact keeps_startStall _ _
  · exact (keeps_startStall w.s l).trans (keeps_testRefused _ _)
  · exact .refl _

theorem keeps_stopBeamEvent (w : Work) (l : Lane) (active : Bool) : Keeps w.s (w.stopBeamEvent l active).s := by
  unfold Work.stopBeamEvent
  split
  · split
    · exact keeps_arrive _ _
    · exact .refl _
  · split
    · exact keeps_redecide _ _ _
    · exact keeps_startStall _ _
  · split
    · exact .refl _
    · exact keeps_occupy _ _
  · exact (keeps_startStall w.s l).trans (keeps_testRefused _ _)
  · exact .refl _

/-- A tag joins the list only where it is not in it yet and there is room (R26). -/
theorem addTag_fits {r : LaneRecord} (n : TagNo) (h : LaneFits r) : LaneFits (r.addTag n) := by
  obtain ⟨hc, hl, hd⟩ := h
  unfold LaneRecord.addTag
  split
  · exact ⟨hc, hl, hd⟩
  · split
    · rename_i hn _
      refine ⟨hc, by simp; omega, ?_⟩
      have : n ∉ r.tags := by simpa using hn
      exact List.nodup_append.mpr ⟨hd, List.nodup_singleton n, by
        intro a ha b hb
        rw [List.mem_singleton] at hb
        subst hb
        exact fun h => this (h ▸ ha)⟩
    · exact ⟨hc, hl, hd⟩

theorem keeps_addTag (s : State) (l : Lane) (n : TagNo) : Keeps s (s.modLane l (·.addTag n)) :=
  keeps_modLane fun _ => addTag_fits n

theorem keeps_tagEvent (w : Work) (l : Lane) (n : TagNo) : Keeps w.s (w.tagEvent l n).s := by
  have h := keeps_addTag w.s l n
  unfold Work.tagEvent
  dsimp only
  split
  · exact h.trans (keeps_arrive (w.upd fun s => s.modLane l (·.addTag n)) l)
  · exact h.trans (keeps_startStall _ _)
  · exact h.trans (keeps_startStall _ _)
  · exact h
  · exact .refl _

theorem keeps_keyEvent (w : Work) (l : Lane) (k : Prog) : Keeps w.s (w.keyEvent l k).s := by
  have h : Keeps w.s (w.s.modLane l fun r => { r with key := some k }) := keeps_modLane
  unfold Work.keyEvent
  dsimp only
  split
  · exact h.trans (keeps_startStall _ _)
  · exact h.trans (keeps_startStall _ _)
  · exact h
  · exact .refl _

theorem keeps_latch (s : State) (l : Lane) (n : Nat) : Keeps s (s.latch l n) :=
  (keeps_modVisit s n _).trans (keeps_clearLane _ _)

theorem keeps_clearBeamEvent (s : State) (l : Lane) (active : Bool) : Keeps s (s.clearBeamEvent l active) := by
  unfold State.clearBeamEvent
  split
  · split
    · exact keeps_modLane
    · split
      · exact keeps_latch _ _ _
      · exact .refl s
  · exact .refl s

theorem keeps_latchIfAdmitted (s : State) (n : Nat) (l : Lane) : Keeps s (s.latchIfAdmitted n l) := by
  unfold State.latchIfAdmitted
  split
  · split
    · exact keeps_latch _ _ _
    · exact .refl s
  · exact .refl s

theorem keeps_laneSeated (s : State) (n : Nat) : Keeps s (s.laneSeated n) :=
  (keeps_latchIfAdmitted _ _ _).trans (keeps_latchIfAdmitted _ _ _)

theorem keeps_clearIfAdmitted (s : State) (n : Nat) (l : Lane) : Keeps s (s.clearIfAdmitted n l) := by
  unfold State.clearIfAdmitted
  split
  · split
    · exact keeps_clearLane _ _
    · exact .refl s
  · exact .refl s

theorem keeps_laneLost (s : State) (n : Nat) : Keeps s (s.laneLost n) :=
  (keeps_clearIfAdmitted _ _ _).trans (keeps_clearIfAdmitted _ _ _)

theorem keeps_laneMode (w : Work) (old new : DepotMode) (l : Lane) : Keeps w.s (w.laneMode old new l).s := by
  unfold Work.laneMode
  split
  · split
    · exact keeps_redecide _ _ _
    · exact .refl _
  · split
    · exact keeps_redecide _ _ _
    · exact .refl _
  · exact .refl _

theorem keeps_gateMode (w : Work) (old new : DepotMode) : Keeps w.s (w.gateMode old new).s :=
  (keeps_laneMode w old new .lane1).trans (keeps_laneMode _ old new .lane2)

/-- A passage moves the count within 0..15 (R25). -/
theorem countPassage_fits {r : LaneRecord} (p : Passage) (h : LaneFits r) : LaneFits (r.countPassage p) := by
  obtain ⟨hc, ht⟩ := h
  unfold LaneRecord.countPassage
  split
  · exact ⟨hc, ht⟩
  · split
    · exact ⟨by dsimp only; omega, ht⟩
    · exact ⟨hc, ht⟩
  · exact ⟨by dsimp only; omega, ht⟩

theorem setTreadle_fits {r : LaneRecord} (t : Treadle) (x : TreadleState) (h : LaneFits r) :
    LaneFits (r.setTreadle t x) := by
  cases t <;> exact h

theorem take_fits {r : LaneRecord} (m : AxleMode) (t : Treadle) (h : LaneFits r) : LaneFits (r.take m t) :=
  countPassage_fits _ (setTreadle_fits (r := r) t _ h)

/-! ## Charges -/

theorem keeps_startWrite (s : State) : Keeps s s.startWrite := by
  unfold State.startWrite
  split
  · split
    · exact (keeps_modVisit s _ _).trans (keeps_modCharges _ _)
    · exact .refl s
  · exact keeps_modCharges _ _
  · exact .refl s

theorem keeps_handOver (s : State) (n : Nat) : Keeps s (s.handOver n) := by
  have h := (keeps_modCharges s fun c => { c with posting := c.posting ++ [.visit n] }).trans
    (keeps_modVisit _ n fun v => { v with state := .finished })
  unfold State.handOver
  refine .after (keeps_startWrite _) ?_
  split
  · exact h.trans (keeps_notify _ _)
  · exact h

theorem keeps_chargeAccount (s : State) (a : Option Nat) (net : Nat) : Keeps s (s.chargeAccount a net) := by
  unfold State.chargeAccount
  split
  · exact .refl s
  · exact keeps_modTables id (Table.wf_upd _ _ _) id

theorem keeps_postVisit (s : State) (n : Nat) (v : Visit) (p : Price) : Keeps s (s.postVisit n v p) := by
  unfold State.postVisit State.leavePosting
  exact .after (keeps_modCharges _ _) (.after (keeps_modCharges _ _) (.after (keeps_chargeAccount _ _ _)
    (.after (keeps_modVisit _ _ _) (.after (keeps_modCharges _ _) (keeps_modCharges s _)))))

theorem keeps_joinSummary (s : State) (x : Summary) : Keeps s (s.joinSummary x) :=
  (keeps_modCharges s _).trans (keeps_startWrite _)

theorem keeps_testPending (s : State) : Keeps s s.testPending := by
  unfold State.testPending
  split
  · split
    · exact keeps_joinSummary _ _
    · exact .refl s
  · exact .refl s

theorem keeps_closeDay (s : State) (ended : Nat) : Keeps s (s.closeDay ended) := by
  unfold State.closeDay
  refine .after (keeps_notify _ _) ?_
  split
  · exact .after (keeps_joinSummary _ _) (keeps_modCharges _ _)
  · exact keeps_modCharges _ _

theorem keeps_postSummary (s : State) (x : Summary) : Keeps s (s.postSummary x) :=
  .after (keeps_startWrite _) (.after (keeps_testPending _) (.after (keeps_notify _ _)
    (.after (keeps_modCharges _ _) (keeps_modCharges s _))))

theorem keeps_age (s : State) (e : Entry) : Keeps s (s.age e) := (keeps_modCharges s _).trans (keeps_notify _ _)

theorem keeps_agePass (s : State) : Keeps s s.agePass := Keeps.foldl id keeps_age _ s

theorem keeps_rewindMark (s : State) : Keeps s s.rewindMark := keeps_modLink_frame

/-! ## Bays -/

theorem keeps_bayNotice (s : State) (b : Bay) (left : BayState) (r : Option Nat) : Keeps s (s.bayNotice b left r) :=
  keeps_notify _ _

theorem keeps_enterSeating (s : State) (b : Bay) : Keeps s (s.enterSeating b) := keeps_modBay

theorem keeps_readEmpty (s : State) (b : Bay) : Keeps s (s.readEmpty b) := by
  unfold State.readEmpty
  dsimp only
  split
  · exact keeps_enterSeating _ _
  · split <;> exact keeps_modBay

theorem keeps_enterEmpty (w : Work) (b : Bay) (left : BayState) (r : Option Nat) :
    Keeps w.s (w.enterEmpty b left r).s :=
  Keeps.trans (t := (w.s.modBay b fun r => { r.restIn .empty with lastFault := .none }).bayNotice b left r)
    (Keeps.trans keeps_modBay (keeps_bayNotice _ _ _ _)) (keeps_readEmpty _ _)

theorem keeps_enterClosed (s : State) (b : Bay) (left : BayState) (r : Option Nat) : Keeps s (s.enterClosed b left r) :=
  Keeps.trans (t := s.modBay b fun r => r.restIn .closed) keeps_modBay (keeps_bayNotice _ _ _ _)

theorem keeps_enterRefilling {s : State} {b : Bay} (left : BayState) (r : Option Nat)
    (h : (s.bc.get b).lineFilled = false) : Keeps s (s.enterRefilling b left r) := by
  refine Keeps.trans (t := (s.modBay b fun r => r.restIn .refilling).bayNotice b left r)
    (Keeps.trans keeps_modBay (keeps_bayNotice _ _ _ _)) (keeps_startRefill ?_)
  exact (lineFilled_modBay (s := s) (f := fun r => r.restIn .refilling) rfl b).trans h

/-- The rest test gives REFILLING only to a bay whose lines are empty (R66). -/
theorem restResult_refilling {f : ServiceFlag} {filled : Bool} {m : DepotMode}
    (h : restResult f filled m = .refilling) : filled = false := by
  cases filled
  · rfl
  · cases f <;> cases m <;> cases h

theorem keeps_restTestFrom (w : Work) (b : Bay) (left : BayState) (released : Option Nat) :
    Keeps w.s (w.restTestFrom b left released).s := by
  have hs : Keeps w.s (w.upd (·.modBay b fun r => { r with service := r.service.afterTest })).s := .upd keeps_modBay
  unfold Work.restTestFrom
  dsimp only
  split
  · exact hs
  · split
    · exact hs.trans (keeps_enterEmpty _ _ _ _)
    · refine hs.trans (.upd (keeps_enterRefilling _ _ ?_))
      have : ((w.upd (·.modBay b fun r => { r with service := r.service.afterTest })).s.bc.get b).lineFilled =
        (w.s.bc.get b).lineFilled := lineFilled_modBay (s := w.s) rfl b
      rw [this]
      exact restResult_refilling ‹_›
    · exact hs.trans (keeps_enterClosed _ _ _ _)

theorem keeps_restTest (w : Work) (b : Bay) (released : Option Nat) : Keeps w.s (w.restTest b released).s :=
  keeps_restTestFrom _ _ _ _

theorem keeps_restTestIfFree (w : Work) (b : Bay) : Keeps w.s (w.restTestIfFree b).s := by
  unfold Work.restTestIfFree
  split
  · exact keeps_restTest _ _ _
  · exact keeps_restTest _ _ _
  · exact .refl _

theorem keeps_closeVisit (w : Work) (n : Nat) : Keeps w.s (w.closeVisit n).s :=
  Keeps.trans (t := w.s.modVisits fun t => Table.del t n) (keeps_modVisits fun t => Table.wf_del t n)
    (keeps_laneLost _ _)

theorem keeps_vehicleGone (w : Work) (b : Bay) : Keeps w.s (w.vehicleGone b).s := by
  unfold Work.vehicleGone
  split
  · rename_i n _
    exact ((keeps_closeVisit w n).trans (t := (w.closeVisit n).s) (.refl _)).trans
      (Keeps.trans (t := ((w.closeVisit n).upd (·.modBay b fun r => { r with held := none })).s)
        (.upd keeps_modBay) (keeps_restTest _ _ _))
  · exact keeps_restTest _ _ _

theorem keeps_enterReleasing (s : State) (b : Bay) : Keeps s (s.enterReleasing b) := by
  refine Keeps.trans ?_ (keeps_bayNotice _ _ _ _)
  exact keeps_modBay

theorem keeps_enterWashing (w : Work) (b : Bay) (n : Nat) : Keeps w.s (w.enterWashing b n).s := by
  unfold Work.enterWashing
  refine Keeps.trans ?_ (keeps_bayNotice _ _ _ _)
  exact keeps_modBay

theorem keeps_washEnd (w : Work) (b : Bay) (cause : EndCause) : Keeps w.s (w.washEnd b cause).s := by
  unfold Work.washEnd
  split
  · exact .refl _
  · refine Keeps.trans (t := State.modBay _ b _) ?_ (keeps_handOver _ _)
    exact Keeps.trans (keeps_modVisit w.s _ _) keeps_modBay

theorem keeps_posted (w : Work) (b : Bay) (v : Visit) (a : ReleaseAnswer) : Keeps w.s (w.posted b v a).s := by
  unfold Work.posted
  dsimp only
  split
  · exact keeps_vehicleGone _ _
  · split
    · exact .upd keeps_modBay
    · exact keeps_enterReleasing _ _

theorem keeps_completeVisit (w : Work) (n : Nat) (p : Price) : Keeps w.s (w.completeVisit n p).s := by
  unfold Work.completeVisit
  split
  · exact .refl _
  · rename_i v _
    have h : Keeps w.s (w.upd (·.postVisit n v p)).s := keeps_postVisit _ _ _ _
    refine Keeps.upd (Keeps.trans (.upd (Keeps.trans ?_ (keeps_notify _ _))) (keeps_startWrite _))
    split
    · exact h.trans (keeps_posted _ _ _ _)
    · exact h

theorem keeps_completeWrite (w : Work) : Keeps w.s w.completeWrite.s := by
  unfold Work.completeWrite
  split
  · exact keeps_completeVisit _ _ _
  · exact keeps_postSummary _ _
  · exact .refl _

/-! ## Visits -/

theorem keeps_call (s : State) (n : Nat) (v : Visit) (b : Bay) : Keeps s (s.call n v b) := by
  unfold State.call
  exact .after (keeps_notify _ _) (.after keeps_modBay (.after (keeps_modVisit _ _ _)
    (.after (keeps_modCalled _ _) (keeps_modQueue _ _))))

theorem keeps_callIfFits (s : State) (n : Nat) : Keeps s (s.callIfFits n) := by
  unfold State.callIfFits
  split
  · exact .refl s
  · split
    · exact keeps_call _ _ _ _
    · exact .refl s

theorem keeps_matchPass (w : Work) : Keeps w.s w.matchPass.s := by
  have h : Keeps w.s (w.s.vq.queue.foldl State.callIfFits w.s) := Keeps.foldl id keeps_callIfFits _ w.s
  unfold Work.matchPass
  dsimp only
  split <;> exact h

theorem keeps_callEnded (w : Work) (b : Bay) : Keeps w.s (w.callEnded b).s := by
  have h : Keeps w.s (w.upd (·.modBay b fun r => { r with called := none, callTimer := none, lamp := false })).s :=
    .upd keeps_modBay
  unfold Work.callEnded
  dsimp only
  split
  · exact h.trans (keeps_restTest _ _ _)
  · exact h

theorem keeps_cancelled (s : State) (n : Nat) (v : Visit) (left : VisitState) (bay : Option Bay) (c : CancelCause) :
    Keeps s (s.cancelled n v left bay c) := by
  unfold State.cancelled
  exact .after (keeps_notify _ _) (.after (keeps_modVisits fun t => Table.wf_del t n)
    (.after (keeps_laneLost _ _) (keeps_modCharges _ _)))

theorem keeps_removeVisit (w : Work) (n : Nat) (left : VisitState) (bay : Option Bay) (c : CancelCause) :
    Keeps w.s (w.removeVisit n left bay c).s := by
  unfold Work.removeVisit
  split
  · exact .refl _
  · rename_i v _
    refine .later (.upd ?_)
    exact .after (keeps_testPending _) (keeps_cancelled _ _ _ _ _ _)

theorem keeps_cancel (w : Work) (n : Nat) (c : CancelCause) : Keeps w.s (w.cancel n c).s := by
  unfold Work.cancel
  split
  · exact .refl _
  · split
    · exact .after (keeps_removeVisit _ _ _ _ _) (.upd (keeps_modQueue _ _))
    · refine .after (keeps_removeVisit _ _ _ _ _) ?_
      split
      · exact .after (keeps_callEnded _ _) (.upd (keeps_modCalled _ _))
      · exact .upd (keeps_modCalled _ _)
    · exact .refl _

theorem keeps_requeue (s : State) (n k : Nat) : Keeps s (s.requeue n k) := keeps_modVisit _ _ _

theorem keeps_noShow (w : Work) (b : Bay) (n : Nat) : Keeps w.s (w.noShow b n).s := by
  have h : Keeps w.s ((w.upd (·.modCalled (without n))).callEnded b).s :=
    .after (keeps_callEnded _ _) (.upd (keeps_modCalled _ _))
  unfold Work.noShow
  split
  · exact .refl _
  · dsimp only
    split
    · refine .later (.upd ?_)
      exact .after (keeps_modQueue _ _) (.after (keeps_requeue _ _ _) h)
    · exact .after (keeps_removeVisit _ _ _ _ _) h

theorem keeps_withdraw (w : Work) (b : Bay) (n : Nat) : Keeps w.s (w.withdraw b n).s := by
  have h : Keeps w.s (w.upd (·.modCalled (without n))).s := .upd (keeps_modCalled _ _)
  unfold Work.withdraw
  split
  · exact .refl _
  · dsimp only
    split
    · refine .later (.after (keeps_callEnded _ _) (.upd ?_))
      exact .after (keeps_modQueue _ _) (.after (keeps_requeue _ _ _) h)
    · exact .after (keeps_removeVisit _ _ _ _ _) (.after (keeps_callEnded _ _) h)

theorem keeps_withdrawAll (w : Work) : Keeps w.s w.withdrawAll.s := by
  unfold Work.withdrawAll
  dsimp only [Work.silent]
  refine .later (.upd ?_)
  refine .after (Keeps.foldl Work.s (fun _ _ => keeps_removeVisit _ _ _ _ _) _ _) ?_
  refine .after (Keeps.foldl Work.s (fun _ _ => keeps_callEnded _ _) _ _) ?_
  refine .after (keeps_modQueue _ _) ?_
  refine .upd (.after (Keeps.foldl id (fun _ _ => keeps_modVisit _ _ _) _ _) ?_)
  exact .upd (keeps_modCalled _ _)

theorem keeps_seatVisit (w : Work) (b : Bay) (n : Nat) : Keeps w.s (w.seatVisit b n).s := by
  unfold Work.seatVisit
  exact .after (keeps_enterWashing _ _ _) (.upd (.after (keeps_laneSeated _ _)
    (.after (keeps_modVisit _ _ _) (keeps_modCalled _ _))))

theorem keeps_sensorEvent (w : Work) (b : Bay) : Keeps w.s (w.sensorEvent b).s := by
  have hseat : Keeps w.s (w.upd (·.modBay b fun r => { r with settleTimer := none })).s := .upd keeps_modBay
  unfold Work.sensorEvent
  dsimp only
  split
  · exact keeps_readEmpty _ _
  · split
    · exact keeps_enterSeating _ _
    · exact .refl _
  · split
    · exact .refl _
    · split
      · exact .upd (.after keeps_modBay hseat)
      · exact .after (keeps_restTest _ _ _) hseat
  · split <;> exact .upd keeps_modBay
  · split
    · exact keeps_vehicleGone _ _
    · exact .refl _
  · split
    · exact keeps_vehicleGone _ _
    · exact .refl _
  · split
    · exact keeps_restTest _ _ _
    · exact .refl _
  · exact .refl _

theorem keeps_settled (w : Work) (b : Bay) : Keeps w.s (w.settled b).s := by
  unfold Work.settled
  dsimp only
  split
  · exact keeps_seatVisit _ _ _
  · exact .upd (.after (keeps_notify _ _) keeps_modBay)

/-! ## Phases -/

/-- A phase begins where none runs, with nothing delivered (R89). -/
theorem keeps_beginPhase {w : Work} {b : Bay} (h : w.s.plan? b = none) (visit number length : Nat) (r : PhaseRecord) :
    Keeps w.s (w.beginPhase b visit number length r).s := by
  have h0 : runDelivered (w.s.pr.get b) = 0 := by
    unfold State.plan? at h
    simp [runDelivered, h]
  unfold Work.beginPhase
  dsimp only
  split
  · refine .after (keeps_demand _ _) (.upd (keeps_modRunner ?_))
    rw [h0]
    rfl
  · refine .upd (keeps_modRunner ?_)
    rw [h0, runDelivered_some, delivered_run]
    rfl

theorem keeps_startPhase (w : Work) (b : Bay) (number : Nat) : Keeps w.s (w.startPhase b number).s := by
  unfold Work.startPhase
  dsimp only
  split
  · split
    · exact keeps_washEnd _ _ _
    · split
      · exact .refl _
      · split
        · exact keeps_washEnd _ _ _
        · exact keeps_beginPhase ‹_› _ _ _ _
  · exact .refl _

theorem plan?_leaveSupply (w : Work) (b c : Bay) : (w.leaveSupply b).s.plan? c = w.s.plan? c := by
  unfold Work.leaveSupply
  dsimp only
  split
  · simp only [Work.freeChannel, Work.after_s, Work.upd_s]
    unfold State.toRunOn
    split <;> rfl
  · rfl

theorem keeps_endPhase (w : Work) (b : Bay) (cause : PhaseCause) (abort : Bool) :
    Keeps w.s (w.endPhase b cause abort).s := by
  unfold Work.endPhase
  split
  · exact .refl _
  · rename_i p hp
    have h : Keeps w.s ((w.leaveSupply b).upd (·.dropDemand b)).s :=
      .upd (.after (keeps_dropDemand _ _) (keeps_leaveSupply _ _))
    have hplan : ((w.leaveSupply b).upd (·.dropDemand b)).s.plan? b = some p := (plan?_leaveSupply w b b).trans hp
    exact .after (t := ((w.leaveSupply b).upd (·.dropDemand b)).s) (keeps_closePhase hplan cause) h

theorem keeps_follow (w : Work) (b : Bay) (visit number : Nat) (cause : PhaseCause) (abort : Bool) :
    Keeps w.s (w.follow b visit number cause abort).s := by
  unfold Work.follow
  split
  · exact .refl _
  · exact .refl _
  · exact .refl _
  · exact keeps_washEnd _ _ _
  · exact .after (keeps_washEnd _ _ _) (.upd keeps_modBay)
  · split
    · exact .refl _
    · exact keeps_washEnd _ _ _

theorem keeps_noteQuality (s : State) (b : Bay) (p : PhaseRun) (u : ReadingsUsed) (avail a debt : Nat)
    (r : PlanResult) : Keeps s (s.noteQuality b p u avail a debt r) := by
  unfold State.noteQuality
  split
  · exact keeps_notify _ _
  · exact .refl s

theorem keeps_runPlan (w : Work) (b : Bay) (f : PlanFigures) : Keeps w.s (w.runPlan b f).s := by
  have h : Keeps w.s (w.upd fun s => (s.modPlan b fun p => { p with reserved := f.fresh }).reserve b f.fresh).s :=
    .upd (.after (keeps_reserve _ _ _) keeps_modPlan)
  unfold Work.runPlan
  dsimp only
  split
  · exact .after (keeps_requestDraw _ _) (.upd (.after (keeps_modPlan fun p => delivered_pause p _) h))
  · exact .upd (.after (keeps_modPlan fun p => delivered_run p _) h)

theorem keeps_takePlan (w : Work) (b : Bay) (u : ReadingsUsed) : Keeps w.s (w.takePlan b u).s := by
  unfold Work.takePlan
  split
  · exact .refl _
  · rename_i p _
    have h : ∀ r a d e, Keeps w.s ((w.s.modPlan b fun p =>
        { p with readings := some u, flags := r.flags, figures := r.figures }).noteQuality b p u a d e r) :=
      fun _ _ _ _ => .after (keeps_noteQuality _ _ _ _ _ _ _ _) keeps_modPlan
    dsimp only
    split
    · exact .after (keeps_runPlan _ _ _) (.upd (h _ _ _ _))
    · exact .upd (h _ _ _ _)
    · exact .later (.upd (h _ _ _ _))
    · exact .later (.upd (h _ _ _ _))

theorem keeps_takePlans (w : Work) (l : List (Bay × ReadingsUsed)) : Keeps w.s (w.takePlans l).s :=
  Keeps.foldl Work.s (fun _ _ => keeps_takePlan _ _ _) l w

theorem keeps_strayPulse (s : State) (b : Bay) : Keeps s (s.strayPulse b) := keeps_modRunner rfl

theorem keeps_endIfMet (w : Work) (b : Bay) : Keeps w.s (w.endIfMet b).s := by
  unfold Work.endIfMet
  split
  · split
    · exact keeps_endPhase _ _ _ _
    · exact .refl _
  · exact .refl _

/-- A pulse books one litre on the plan and one in the loop's book (R161). -/
theorem keeps_pulse_booked {s : State} {b : Bay} {p : PhaseRun} {f : PhaseRun → PhaseRun} {g : Loop → Loop}
    (hp : s.plan? b = some p) (hf : delivered (f p) = delivered p + 1)
    (hg : (g s.lm).vSet + (g s.lm).vRec + 1 - (g s.lm).rightSide = s.lm.vSet + s.lm.vRec - s.lm.rightSide)
    (hh : (g s.lm).heldLine = s.lm.heldLine) (hr : (g s.lm).refills = s.lm.refills) :
    Keeps s ((s.modPlan b f).modLoop g) := by
  refine ⟨rfl, loopSound_of ?_ (linesTold_of (fun _ => rfl) hh hr) rfl, id, id, id, id⟩
  have hv : ((s.modPlan b f).modLoop g).vBays = s.vBays + 1 := vBays_modPlan_add hp hf
  have hlm : ((s.modPlan b f).modLoop g).lm = g s.lm := rfl
  simp only [State.leftSide, State.vLines, hv, hlm, hh]
  omega

theorem keeps_freshPulse {w : Work} {b : Bay} {p : PhaseRun} (hp : w.s.plan? b = some p) :
    Keeps w.s (w.freshPulse b).s := by
  unfold Work.freshPulse
  refine .after (keeps_endIfMet _ _) (.upd (keeps_pulse_booked hp ?_ ?_ rfl rfl))
  · simp only [delivered]
    omega
  · simp only [Loop.rightSide]
    omega

theorem keeps_recycledMet (w : Work) (b : Bay) : Keeps w.s (w.recycledMet b).s := by
  unfold Work.recycledMet
  exact .after (keeps_leaveSupply _ _) (.upd keeps_modPlan)

theorem keeps_recycledPulse {w : Work} {b : Bay} {p : PhaseRun} (hp : w.s.plan? b = some p) :
    Keeps w.s (w.recycledPulse b p).s := by
  have h : Keeps w.s (w.upd fun s =>
      ((s.modPlan b fun p => { p with recycled := p.recycled + 1 }).bookRecycled).firstPulse b).s := by
    refine .upd (.after (keeps_firstPulse _ _) (.after (keeps_decideReclaim _) (keeps_pulse_booked hp ?_ ?_ rfl rfl)))
    · simp only [delivered]
      omega
    · simp only [Loop.rightSide]
      omega
  unfold Work.recycledPulse
  refine .after (keeps_endIfMet _ _) ?_
  split
  · exact h
  · exact .after (keeps_recycledMet _ _) h

theorem keeps_pulse (w : Work) (b : Bay) (m : Meter) : Keeps w.s (w.pulse b m).s := by
  unfold Work.pulse
  split
  · exact keeps_strayPulse _ _
  · split
    · split
      · exact keeps_freshPulse ‹_›
      · exact keeps_strayPulse _ _
    · split
      · exact keeps_recycledPulse ‹_›
      · exact keeps_strayPulse _ _

theorem keeps_grantTimeout (w : Work) (ch : Supply) (b : Bay) : Keeps w.s (w.grantTimeout ch b).s := by
  have h : Keeps w.s ((w.upd (·.withdrawGrant ch b)).upd (·.modPlan b fun p => { p with timeouts := p.timeouts + 1 })).s :=
    .upd (.after keeps_modPlan (keeps_withdrawGrant _ _ _))
  unfold Work.grantTimeout
  dsimp only
  split
  · split
    · exact .after (keeps_endPhase _ _ _ _) (.upd (.after (keeps_setRequest _ _ _) h))
    · exact h
  · exact h

theorem keeps_cutWash (w : Work) (b : Bay) (cause : PhaseCause) (ending : EndCause) :
    Keeps w.s (w.cutWash b cause ending).s :=
  .after (keeps_washEnd _ _ _) (keeps_endPhase _ _ _ _)

/-! ## Modes -/

theorem keeps_modeNotice (s : State) (left : DepotMode) (c : ModeCause) (d k : Option Nat) :
    Keeps s (s.modeNotice left c d k) := keeps_notify _ _

theorem keeps_withdrawCalls (w : Work) (old new : DepotMode) : Keeps w.s (w.withdrawCalls old new).s := by
  unfold Work.withdrawCalls
  split
  · exact keeps_withdrawAll _
  · exact .refl _

theorem keeps_restTests (w : Work) : Keeps w.s w.restTests.s := Keeps.foldl Work.s keeps_restTestIfFree _ w

theorem keeps_openPass (w : Work) (new : DepotMode) : Keeps w.s (w.openPass new).s := by
  unfold Work.openPass
  split <;> exact .refl _

theorem keeps_tellMode (w : Work) (old new : DepotMode) : Keeps w.s (w.tellMode old new).s := by
  unfold Work.tellMode
  exact .upd (.after (keeps_decideReclaim _) (.after (keeps_supplyMode _ _) (.after (keeps_openPass _ _)
    (.after (keeps_restTests _) (.after (keeps_withdrawCalls _ _ _) (keeps_gateMode _ _ _))))))

theorem keeps_putMode (s : State) (new : DepotMode) (o : Option HoldOrigin) : Keeps s (s.putMode new o) :=
  keeps_modLoop_frame

theorem keeps_changeMode (w : Work) (new : DepotMode) (o : Option HoldOrigin) (c : ModeCause) :
    Keeps w.s (w.changeMode new o c).s := by
  have h : Keeps w.s (((w.upd (·.putMode new o)).tellMode w.s.mode new).upd (·.modeNotice w.s.mode c none none)).s :=
    .upd (.after (keeps_modeNotice _ _ _ _ _) (.after (keeps_tellMode _ _ _) (.upd (keeps_putMode _ _ _))))
  unfold Work.changeMode
  dsimp only
  split <;> exact h

theorem keeps_dropDrain (s : State) : Keeps s s.dropDrain := keeps_modLoop_frame

theorem keeps_enterDrain (w : Work) (c : ModeCause) : Keeps w.s (w.enterDrain c).s := by
  unfold Work.enterDrain
  refine .later (.upd ?_)
  exact .after keeps_modLoop_frame (keeps_dropDrain _)

theorem keeps_drainCuts (w : Work) (rest : List Bay) (cut : Nat) (c : ModeCause) :
    Keeps w.s (w.drainCuts rest cut c).s := by
  unfold Work.drainCuts
  split
  · exact .refl _
  · split
    · exact keeps_endPhase _ _ _ _
    · exact .refl _

theorem keeps_drainBay (w : Work) (b : Bay) : Keeps w.s (w.drainBay b).s := by
  unfold Work.drainBay
  split
  · exact .after (keeps_restTestIfFree _ _) (.upd (keeps_drainLine _ _))
  · exact .refl _

theorem keeps_cancelAll (w : Work) : Keeps w.s w.cancelAll.s := by
  unfold Work.cancelAll
  dsimp only [Work.silent]
  refine .later (.upd ?_)
  exact Keeps.foldl Work.s (fun _ _ => keeps_cancel _ _ _) _ ⟨w.s, []⟩

theorem keeps_drainRest (w : Work) (cut : Nat) (c : ModeCause) : Keeps w.s (w.drainRest cut c).s := by
  unfold Work.drainRest
  exact .upd (.after (keeps_modeNotice _ _ _ _ _) (.after (keeps_tellMode _ _ _)
    (.after (Keeps.foldl Work.s keeps_drainBay _ _) (.after (keeps_cancelAll _) (.upd (keeps_putMode _ _ _))))))

theorem keeps_askDrain (w : Work) (c : ModeCause) : Keeps w.s (w.askDrain c).s := by
  have h : Keeps w.s (w.upd fun s => s.modLoop fun l =>
      { l with drainPending := some c, deferral := some (s.due s.settings.deferralMax) }).s := .upd keeps_modLoop_frame
  unfold Work.askDrain
  dsimp only
  split
  · split
    · exact .after (keeps_changeMode _ _ _ _) h
    · exact .upd (.after (keeps_modeNotice _ _ _ _ _) h)
  · exact keeps_enterDrain _ _

theorem keeps_drainCheck (w : Work) : Keeps w.s w.drainCheck.s := by
  unfold Work.drainCheck
  split
  · split
    · exact .refl _
    · exact keeps_enterDrain _ _
  · exact .refl _

theorem keeps_wantMode (w : Work) (new : DepotMode) : Keeps w.s (w.wantMode new).s := by
  have h : Keeps w.s (w.upd (·.dropDrain)).s := .upd (keeps_dropDrain _)
  unfold Work.wantMode
  dsimp only
  split
  · exact .upd (.after (keeps_putMode _ _ _) h)
  · exact .after (keeps_changeMode _ _ _ _) h

theorem keeps_wantDrain (w : Work) (force : Bool) : Keeps w.s (w.wantDrain force).s := by
  unfold Work.wantDrain
  split
  · exact .refl _
  · split
    · exact keeps_enterDrain _ _
    · split
      · exact .refl _
      · exact keeps_askDrain _ _

theorem keeps_frostHold (w : Work) (v : Int) : Keeps w.s (w.frostHold v).s := by
  unfold Work.frostHold
  split
  · split
    · split
      · exact keeps_changeMode _ _ _ _
      · exact .refl _
    · split
      · exact keeps_changeMode _ _ _ _
      · exact .refl _
  · exact .refl _

theorem keeps_frostPersist (s : State) (v : Int) : Keeps s (s.frostPersist v) := by
  unfold State.frostPersist
  split
  · split <;> exact keeps_modLoop_frame
  · exact .refl s

theorem keeps_airReading (w : Work) : Keeps w.s w.airReading.s := by
  unfold Work.airReading
  exact .upd (.after (keeps_frostPersist _ _) (keeps_frostHold _ _))

theorem keeps_persistExpiry (w : Work) : Keeps w.s w.persistExpiry.s := by
  have h : Keeps w.s (w.upd (·.modLoop fun l => { l with persist := none })).s := .upd keeps_modLoop_frame
  unfold Work.persistExpiry
  dsimp only
  split
  · exact h
  · exact .after (keeps_askDrain _ _) h

/-- A refill that is in flight completes (R167). -/
theorem keeps_refillDone {w : Work} {b : Bay} (r : Refill) (hr : w.s.lm.refills.get b ≠ none) :
    Keeps w.s (w.refillDone b r).s := by
  have hb : Keeps w.s (w.upd (·.bookRefill b r)).s := .upd (keeps_bookRefill hr)
  have hd : Keeps w.s (if (w.upd (·.bookRefill b r)).s.mode = .drain then
      (w.upd (·.bookRefill b r)).upd (·.drainLine b) else w.upd (·.bookRefill b r)).s := by
    split
    · exact .upd (.after (keeps_drainLine _ _) hb)
    · exact hb
  have hrest : ∀ v : Work, Keeps v.s ((match (v.s.bc.get b).state with
      | .refilling => v.restTest b none
      | _ => v.restTestIfFree b).upd (·.decideReclaim)).s := by
    intro v
    refine .upd (.after (keeps_decideReclaim _) ?_)
    split
    · exact keeps_restTest _ _ _
    · exact keeps_restTestIfFree _ _
  have h := hd.trans (hrest _)
  have hchoice : ∀ v : Work, Keeps v.s (if v.s.mode = .refill then v.after [.refillChoice] else v).s := by
    intro v
    split <;> exact .refl _
  exact h.trans (hchoice _)

theorem keeps_refillChoice (w : Work) : Keeps w.s w.refillChoice.s := by
  unfold Work.refillChoice
  split
  · exact .refl _
  · split
    · refine .upd (keeps_enterRefilling _ _ ?_)
      rename_i b hb
      have := List.find?_some hb
      simp only [State.refillable, Bool.and_eq_true, Bool.not_eq_true'] at this
      exact this.1.2
    · split
      · split <;> exact keeps_changeMode _ _ _ _
      · exact .refl _

theorem keeps_setService (s : State) (b : Bay) (f : ServiceFlag) : Keeps s (s.setService b f) := keeps_modBay

theorem keeps_takeOut (w : Work) (b : Bay) : Keeps w.s (w.takeOut b).s := by
  have h : ∀ f, Keeps w.s (w.upd (·.setService b f)).s := fun f => .upd (keeps_setService _ _ _)
  unfold Work.takeOut
  dsimp only
  split
  · exact .after (keeps_restTest _ _ _) (h _)
  · exact h _
  · split
    · exact .after (keeps_withdraw _ _ _) (h _)
    · exact .after (keeps_restTest _ _ _) (h _)
  · exact h _

theorem keeps_service (w : Work) (b : Bay) (x : ServiceWanted) : Keeps w.s (w.service b x).s := by
  unfold Work.service
  split
  · exact keeps_takeOut _ _
  · exact .upd (keeps_setService _ _ _)
  · exact .after (keeps_restTestIfFree _ _) (.upd (keeps_setService _ _ _))
  · exact .refl _

theorem keeps_serviceTaken (w : Work) (b : Bay) (x : ServiceWanted) : Keeps w.s (w.serviceTaken b x).s := by
  have h := keeps_service w b x
  unfold Work.serviceTaken
  dsimp only
  split <;> exact h

/-! ## Consequences -/

/-- Every consequence keeps it (log 4). -/
theorem keeps_handle (w : Work) (t : Task) : Keeps w.s (w.handle t).s := by
  cases t with
  | matchPass => exact keeps_matchPass w
  | capacity => exact .refl _
  | retry l => exact keeps_retry w l
  | grantPass => exact keeps_grantPass w
  | purgeTest => exact keeps_purgeTest w
  | plans answers => exact keeps_takePlans w answers
  | startPhase b n => exact keeps_startPhase w b n
  | endPhase b cause abort => exact keeps_endPhase w b cause abort
  | follow b visit n cause abort => exact keeps_follow w b visit n cause abort
  | drainCheck => exact keeps_drainCheck w
  | drainCuts rest cut cause => exact keeps_drainCuts w rest cut cause
  | drainRest cut cause => exact keeps_drainRest w cut cause
  | refillChoice => exact keeps_refillChoice w
  | chooseNext d => exact keeps_choose w.s d
  | ch5 => exact keeps_airReading w

theorem keeps_next (w : Work) : Keeps w.s w.next.s := by
  obtain ⟨s, _ | ⟨t, rest⟩⟩ := w
  · exact .refl _
  · exact keeps_handle ⟨s, []⟩ t

theorem keeps_run (k : Nat) (w : Work) : Keeps w.s (w.run k).s := by
  induction k generalizing w with
  | zero => exact .refl _
  | succ k ih =>
    obtain ⟨s, _ | ⟨t, rest⟩⟩ := w
    · exact .refl _
    · exact (keeps_next ⟨s, t :: rest⟩).trans (ih _)

theorem keeps_settle (w : Work) : Keeps w.s w.settle := keeps_run _ w

/-! ## Requests -/

/-- A SET_DEPOT body in range has a carry-off of at most 200 (R15). -/
theorem checkDepot_carryOff {daily : Nat} {f : SetDepot} {n : Settings} (h : checkDepot daily f = some n) :
    n.carryOff ≤ 1000 := by
  simp only [checkDepot, Option.bind_eq_bind, Option.bind_eq_some_iff] at h
  obtain ⟨_, _, _, _, _, _, _, _, _, _, _, _, h⟩ := h
  split at h
  · rename_i hfit
    cases h
    simp only [Bool.and_eq_true, loopFits, decide_eq_true_eq] at hfit
    dsimp only
    omega
  · cases h

theorem keeps_settingsTaken (w : Work) (old : Settings) : Keeps w.s (w.settingsTaken old).s := by
  have hrecount : ∀ s : State, ∀ l, Keeps s (s.recount old l) := by
    intro s l
    unfold State.recount
    split
    · exact .refl s
    · exact keeps_modLane
  have hpersist : ∀ s : State, Keeps s s.stopPersist := by
    intro s
    unfold State.stopPersist
    split
    · exact .refl s
    · exact keeps_modLoop_frame
  unfold Work.settingsTaken
  refine .later (.upd ?_)
  refine (.after (keeps_decideReclaim _) (.after (keeps_agePass _) (.after (hpersist _)
    (.after (keeps_chooseIfIdle _) (.after (keeps_resetCut _ _) (.after (keeps_resetCut _ _)
    (.after (keeps_leadChange _ _ _) ?_)))))))
  exact .upd (.after (hrecount _ _) (hrecount _ _))

theorem keeps_withBody {α : Type} (w : Work) (body : Body α) (f : α → Answered) (h : ∀ x, Keeps w.s (f x).1.s) :
    Keeps w.s (w.withBody body f).1.s := by
  cases body with
  | fields x => exact h x
  | wrongLength => exact .refl _

theorem keeps_reqPutClass (w : Work) (body : Body PutClass) : Keeps w.s (w.reqPutClass body).1.s := by
  refine keeps_withBody w body _ fun f => ?_
  split
  · exact .refl _
  · exact .later (.upd (keeps_modTables id id id))

theorem keeps_reqPutAccount (w : Work) (body : Body PutAccount) : Keeps w.s (w.reqPutAccount body).1.s := by
  refine keeps_withBody w body _ fun f => ?_
  split
  · exact .refl _
  · split
    · exact .refl _
    · split
      · exact .refl _
      · exact .upd (keeps_modTables id (Table.wf_put _ _ _) id)

theorem keeps_reqDropAccount (w : Work) (body : Body Nat) : Keeps w.s (w.reqDropAccount body).1.s := by
  refine keeps_withBody w body _ fun n => ?_
  split
  · exact .refl _
  · split
    · exact .refl _
    · split
      · exact .refl _
      · exact .upd (keeps_modTables id (Table.wf_del _ _) (Table.wf_of_sublist List.filter_sublist))

theorem keeps_reqPutTag (w : Work) (body : Body PutTag) : Keeps w.s (w.reqPutTag body).1.s := by
  refine keeps_withBody w body _ fun f => ?_
  split
  · exact .refl _
  · split
    · exact .refl _
    · split
      · exact .refl _
      · exact .upd (keeps_modTables id id (Table.wf_put _ _ _))

theorem keeps_reqDropTag (w : Work) (body : Body TagNo) : Keeps w.s (w.reqDropTag body).1.s := by
  refine keeps_withBody w body _ fun n => ?_
  split
  · exact .refl _
  · split
    · exact .refl _
    · exact .upd (keeps_modTables id id (Table.wf_del _ _))

theorem keeps_reqPutTariff (w : Work) (body : Body PutTariff) : Keeps w.s (w.reqPutTariff body).1.s := by
  refine keeps_withBody w body _ fun f => ?_
  split
  · exact .refl _
  · split
    · exact .upd (keeps_modTables id id id)
    · exact .refl _

theorem keeps_reqPutProgramme (w : Work) (body : Body PutProgramme) : Keeps w.s (w.reqPutProgramme body).1.s := by
  refine keeps_withBody w body _ fun f => ?_
  split
  · exact .refl _
  · exact .upd (keeps_modTables id id id)

theorem keeps_reqSetDepot (w : Work) (body : Body SetDepot) : Keeps w.s (w.reqSetDepot body).1.s := by
  refine keeps_withBody w body _ fun f => ?_
  split
  · exact .refl _
  · rename_i n hn
    split
    · exact .refl _
    · exact .after (keeps_settingsTaken _ _) (.upd (keeps_modTables (fun _ => checkDepot_carryOff hn) id id))

theorem keeps_reqSetMode (w : Work) (body : Body SetMode) : Keeps w.s (w.reqSetMode body).1.s := by
  refine keeps_withBody w body _ fun f => ?_
  split
  · exact .refl _
  · exact keeps_wantDrain _ _
  · split
    · exact .refl _
    · exact keeps_wantMode _ _
  · exact keeps_wantMode _ _

theorem keeps_midnight (s : State) (ended : Nat) : Keeps s (s.midnight ended) :=
  .after (keeps_closeDay _ _) (keeps_allowanceMidnight _)

theorem keeps_reqSetClock (w : Work) (body : Body SetClock) : Keeps w.s (w.reqSetClock body).1.s := by
  refine keeps_withBody w body _ fun f => ?_
  dsimp only
  split
  · exact .refl _
  · refine Keeps.trans ?_ (keeps_clock (if daysForward w.s.clock.day f.day = 1 then w.s.midnight w.s.clock.day else w.s) _)
    split
    · exact keeps_midnight _ _
    · exact .refl _

theorem keeps_reqSetAllowance (w : Work) (body : Body Nat) : Keeps w.s (w.reqSetAllowance body).1.s := by
  refine keeps_withBody w body _ fun n => ?_
  split
  · exact .refl _
  · exact .upd (keeps_modTables id id id)

theorem keeps_reqBayService (w : Work) (body : Body BayService) : Keeps w.s (w.reqBayService body).1.s := by
  refine keeps_withBody w body _ fun f => ?_
  split
  · exact keeps_serviceTaken _ _ _
  · exact .refl _

theorem keeps_reqReleaseBay (w : Work) (body : Body Nat) : Keeps w.s (w.reqReleaseBay body).1.s := by
  refine keeps_withBody w body _ fun n => ?_
  split
  · exact .refl _
  · split
    · exact keeps_enterReleasing _ _
    · exact .refl _

theorem keeps_assign (w : Work) (f : AssignFields) : Keeps w.s (w.assign f).s :=
  .after (keeps_enterWashing _ _ _) (.upd (keeps_enrol w.s w.s.newNumber (w.s.assignedVisit f)))

theorem keeps_reqAssignBay (w : Work) (body : Body AssignBay) : Keeps w.s (w.reqAssignBay body).1.s := by
  refine keeps_withBody w body _ fun raw => ?_
  split
  · exact .refl _
  · split
    · exact .refl _
    · split
      · exact .refl _
      · split
        · exact .refl _
        · split
          · exact .refl _
          · exact keeps_assign _ _

theorem keeps_reqCancelVisit (w : Work) (body : Body Nat) : Keeps w.s (w.reqCancelVisit body).1.s := by
  refine keeps_withBody w body _ fun n => ?_
  split
  · exact .refl _
  · split
    · exact .refl _
    · split
      · exact keeps_cancel _ _ _
      · exact keeps_cancel _ _ _
      · exact .refl _

theorem keeps_reqAdmitOverride (w : Work) (body : Body Nat) : Keeps w.s (w.reqAdmitOverride body).1.s := by
  refine keeps_withBody w body _ fun n => ?_
  split
  · exact .refl _
  · split
    · exact keeps_decideLane _ _ _
    · exact .refl _

theorem keeps_reqSettle (w : Work) (body : Body SettleAccount) : Keeps w.s (w.reqSettle body).1.s := by
  refine keeps_withBody w body _ fun f => ?_
  split
  · exact .refl _
  · split
    · exact .refl _
    · exact .upd (keeps_modTables id (Table.wf_upd _ _ _) id)

theorem keeps_reqClosePeriod (w : Work) (body : Body Unit) : Keeps w.s (w.reqClosePeriod body).1.s :=
  keeps_withBody w body _ fun _ => .upd (keeps_modTables id (Table.wf_map _ _ fun _ => rfl) id)

theorem keeps_reqTrimLoop (w : Work) (body : Body Unit) : Keeps w.s (w.reqTrimLoop body).1.s := by
  refine keeps_withBody w body _ fun _ => ?_
  split
  · exact .refl _
  · exact keeps_trim (Bool.eq_false_iff.mpr ‹_›)

theorem keeps_reqDischarge (w : Work) (body : Body Nat) : Keeps w.s (w.reqDischarge body).1.s := by
  refine keeps_withBody w body _ fun n => ?_
  split
  · exact .refl _
  · exact keeps_discharge _ _

theorem keeps_reqGetStatus (w : Work) (body : Body Unit) : Keeps w.s (w.reqGetStatus body).1.s :=
  keeps_withBody w body _ fun _ => .upd keeps_modLink_frame

theorem keeps_reqGetVisit (w : Work) (body : Body GetVisit) : Keeps w.s (w.reqGetVisit body).1.s := by
  refine keeps_withBody w body _ fun f => ?_
  split
  · exact .refl _
  · split <;> exact .refl _

theorem keeps_reqGetQueue (w : Work) (body : Body Unit) : Keeps w.s (w.reqGetQueue body).1.s :=
  keeps_withBody w body _ fun _ => .refl _

theorem keeps_reqGetBay (w : Work) (body : Body Nat) : Keeps w.s (w.reqGetBay body).1.s := by
  refine keeps_withBody w body _ fun n => ?_
  split
  · exact .refl _
  · exact keeps_useFresh _

theorem keeps_reqGetWater (w : Work) (body : Body Unit) : Keeps w.s (w.reqGetWater body).1.s :=
  keeps_withBody w body _ fun _ => .refl _

theorem keeps_reqGetAccount (w : Work) (body : Body Nat) : Keeps w.s (w.reqGetAccount body).1.s := by
  refine keeps_withBody w body _ fun n => ?_
  split
  · exact .refl _
  · split <;> exact .refl _

theorem keeps_reqGetReading (w : Work) (body : Body Nat) : Keeps w.s (w.reqGetReading body).1.s := by
  refine keeps_withBody w body _ fun n => ?_
  split <;> exact .refl _

theorem keeps_reqSnapLane (w : Work) (body : Body Nat) : Keeps w.s (w.reqSnapLane body).1.s := by
  refine keeps_withBody w body _ fun n => ?_
  split <;> exact .refl _

theorem keeps_reqTakeCharges (w : Work) (body : Body Nat) : Keeps w.s (w.reqTakeCharges body).1.s := by
  refine keeps_withBody w body _ fun n => ?_
  split
  · exact .refl _
  · exact .upd keeps_modLink_frame

theorem keeps_reqConfirmCharges (w : Work) (body : Body Seq) : Keeps w.s (w.reqConfirmCharges body).1.s := by
  refine keeps_withBody w body _ fun q => ?_
  split
  · exact .refl _
  · exact .refl _
  · exact .after (keeps_testPending _) (keeps_modCharges _ _)

theorem keeps_reqRewindCharges (w : Work) (body : Body Unit) : Keeps w.s (w.reqRewindCharges body).1.s :=
  keeps_withBody w body _ fun _ => .upd (keeps_rewindMark _)

/-- Every owner keeps it (R200). -/
theorem keeps_owner (w : Work) (r : Request) : Keeps w.s (w.owner r).1.s := by
  cases r with
  | putClass b => exact keeps_reqPutClass w b
  | putAccount b => exact keeps_reqPutAccount w b
  | dropAccount b => exact keeps_reqDropAccount w b
  | putTag b => exact keeps_reqPutTag w b
  | dropTag b => exact keeps_reqDropTag w b
  | putTariff b => exact keeps_reqPutTariff w b
  | putProgramme b => exact keeps_reqPutProgramme w b
  | setDepot b => exact keeps_reqSetDepot w b
  | setMode b => exact keeps_reqSetMode w b
  | setClock b => exact keeps_reqSetClock w b
  | setAllowance b => exact keeps_reqSetAllowance w b
  | bayService b => exact keeps_reqBayService w b
  | releaseBay b => exact keeps_reqReleaseBay w b
  | assignBay b => exact keeps_reqAssignBay w b
  | cancelVisit b => exact keeps_reqCancelVisit w b
  | admitOverride b => exact keeps_reqAdmitOverride w b
  | settleAccount b => exact keeps_reqSettle w b
  | closePeriod b => exact keeps_reqClosePeriod w b
  | trimLoop b => exact keeps_reqTrimLoop w b
  | discharge b => exact keeps_reqDischarge w b
  | linkReset b => exact .refl _
  | getStatus b => exact keeps_reqGetStatus w b
  | getVisit b => exact keeps_reqGetVisit w b
  | getQueue b => exact keeps_reqGetQueue w b
  | getBay b => exact keeps_reqGetBay w b
  | getWater b => exact keeps_reqGetWater w b
  | getAccount b => exact keeps_reqGetAccount w b
  | getReading b => exact keeps_reqGetReading w b
  | snapLane b => exact keeps_reqSnapLane w b
  | takeCharges b => exact keeps_reqTakeCharges w b
  | confirmCharges b => exact keeps_reqConfirmCharges w b
  | rewindCharges b => exact keeps_reqRewindCharges w b
  | unknown k => exact .refl _

/-! ## The holding list and the receiver -/

/-- The head of the holding list leaves it (R200). -/
theorem keeps_dropHeld (s : State) : Keeps s (s.modLink fun l => { l with holding := l.holding.tail }) :=
  keeps_modLink fun ⟨hh, hn, ht⟩ => ⟨le_trans (by simp) hh, hn, ht⟩

theorem keeps_carryOut (s : State) (h : Held) : Keeps s (s.carryOut h) := by
  unfold State.carryOut
  exact .after (keeps_answer _ _) (.after (keeps_dropHeld _) (.after (keeps_settle _) (keeps_owner ⟨s, []⟩ h.request)))

theorem keeps_handOn (s : State) (held : List Held) : Keeps s (s.handOn held) := by
  induction held generalizing s with
  | nil => exact .refl s
  | cons h rest ih =>
    unfold State.handOn
    split
    · exact (keeps_carryOut s h).trans (ih _)
    · exact .refl s

theorem keeps_handover (s : State) : Keeps s s.handover := keeps_handOn _ _

theorem keeps_offer (s : State) (tag : Byte) (r : Request) : Keeps s (s.offer tag r) := by
  unfold State.offer
  split
  · refine .after (keeps_handover _) (keeps_modLink fun ⟨_, hn, ht⟩ => ⟨?_, hn, ht⟩)
    simp
    omega
  · split
    · exact .after (keeps_answer _ _) keeps_modLink_frame
    · exact keeps_modLink_frame

theorem keeps_clearLink (s : State) : Keeps s s.clearLink :=
  .after (keeps_rewindMark _) (keeps_modLink fun _ => ⟨Nat.zero_le _, Nat.zero_le _, fun _ => ⟨rfl, rfl⟩⟩)

theorem keeps_receiveReset (s : State) (tag : Byte) (body : Body Unit) : Keeps s (s.receiveReset tag body) := by
  cases body with
  | fields x => exact .after (keeps_notify _ _) (.after (keeps_answer _ _) (keeps_clearLink s))
  | wrongLength => exact keeps_offer _ _ _

theorem keeps_lineBroken (s : State) : Keeps s s.lineBroken := by
  unfold State.lineBroken
  exact .after (keeps_notify _ _) (.after keeps_modLink_frame (keeps_clearLink s))

theorem keeps_receiveFrame (s : State) (i : Instr) : Keeps s (s.receiveFrame i) := by
  unfold State.receiveFrame
  split <;> first | exact keeps_offer _ _ _ | exact keeps_receiveReset _ _ _ | exact .refl s

theorem keeps_receiveOne (s : State) (e : RxEvent) : Keeps s (s.receiveOne e) := by
  cases e with
  | frame kind tag body => exact keeps_receiveFrame _ _
  | crcError => exact keeps_modLink_frame (s := s) (f := fun l => { l with crcErrors := satAdd max16 l.crcErrors 1 })
  | framingError =>
    exact keeps_modLink_frame (s := s) (f := fun l => { l with framingErrors := satAdd max16 l.framingErrors 1 })

theorem keeps_receive (s : State) (l : List RxEvent) : Keeps s (s.receive l) := Keeps.foldl id keeps_receiveOne l s

theorem keeps_lineBytes (s : State) (bytes : List Byte) : Keeps s (s.lineBytes bytes) := by
  unfold State.lineBytes
  exact .after (keeps_receive _ _) keeps_modLink_frame

theorem keeps_lineGap (s : State) (bytes : List Byte) : Keeps s (s.lineGap bytes) := by
  unfold State.lineGap
  exact .after (keeps_receive _ _) keeps_modLink_frame

theorem keeps_frameSent (s : State) : Keeps s s.frameSent := by
  unfold State.frameSent
  split
  · refine .after (keeps_handover _) (keeps_modLink fun ⟨hh, hn, _⟩ => ⟨?_, ?_, Link.pump_idle _⟩)
    · simpa using hh
    · exact le_trans (Link.pump_notices_le _) hn
  · exact .refl s

/-! ## Starts -/

theorem linesTold_cold (levels : FieldLevels) : LinesTold (State.cold levels) := by
  intro b
  cases b <;> exact ⟨fun _ => rfl, fun h => absurd rfl h⟩

theorem lanesSound_start (s : State) (x y : LaneLevels) (h : s.gu = ⟨startLane x, startLane y⟩) : LanesSound s := by
  intro l
  rw [h]
  cases l <;> exact ⟨Nat.zero_le _, Nat.zero_le _, List.nodup_nil⟩

theorem keeps_coldStart (s : State) (levels : FieldLevels) : Keeps s (s.coldStart levels) := by
  unfold State.coldStart
  refine .after (keeps_choose _ _) (.after (keeps_notify _ _) ?_)
  exact {
    queue := rfl
    loop := fun _ => ⟨rfl, linesTold_cold levels, show 40 ≤ 1000 by decide⟩
    link := fun _ => ⟨Nat.zero_le _, Nat.zero_le _, fun _ => ⟨rfl, rfl⟩⟩
    tables := fun _ => ⟨rfl, rfl, rfl⟩
    lanes := fun _ => lanesSound_start _ _ _ rfl
    supply := fun _ => ⟨Nat.zero_le _, List.Perm.refl _⟩ }

/-- A warm restart keeps the book, with what the running phases have delivered (R107, R177). -/
theorem keeps_warmBase (s : State) (levels : FieldLevels) : Keeps s (s.warmBase levels) where
  queue := rfl
  loop := by
    have hrun : ∀ r : BayRunner, ∀ n, runDelivered (r.kept n) = runDelivered r := by
      rintro ⟨_ | p, k⟩ n <;> rfl
    have hlines : ∀ b, ((s.warmBase levels).bc.get b).lineFilled = (s.bc.get b).lineFilled := by
      intro b
      cases b <;> rfl
    refine loopSound_of ?_ (fun hl b => ⟨fun h => (hl b).1 ((hlines b).symm.trans h), fun h => absurd ?_ h⟩) rfl
    · simp only [State.leftSide, State.vLines, State.vBays, State.warmBase, Six.toList, List.map_cons, List.map_nil, hrun]
      rfl
    · cases b <;> rfl
  link := fun _ => ⟨Nat.zero_le _, Nat.zero_le _, fun _ => ⟨rfl, rfl⟩⟩
  tables := id
  lanes := fun _ => lanesSound_start _ _ _ rfl
  supply := fun _ => ⟨show 1 ≤ 3 by decide, List.Perm.refl _⟩

theorem keeps_returnCalled (s : State) : Keeps s s.returnCalled :=
  ⟨rfl, id, id, fun ⟨h1, h2, h3⟩ => ⟨h1, h2, Table.wf_map _ _ (fun _ => rfl) h3⟩, id, id⟩

theorem keeps_cancelRestart (s : State) (n : Nat) : Keeps s (s.cancelRestart n) := by
  unfold State.cancelRestart
  split
  · exact .after (keeps_cancelled _ _ _ _ _ _) (keeps_modQueue _ _)
  · exact .refl s

theorem keeps_cutQueue (s : State) : Keeps s s.cutQueue := Keeps.foldl id keeps_cancelRestart _ s

theorem keeps_restTestLost (w : Work) (b : Bay) (released : Option Nat) : Keeps w.s (w.restTestLost b released).s := by
  unfold Work.restTestLost
  exact .upd (.after (keeps_useFresh _) (keeps_restTestFrom _ _ _ _))

theorem keeps_rebuildHeld (w : Work) (b : Bay) (n : Nat) (v : Visit) : Keeps w.s (w.rebuildHeld b n v).s := by
  unfold Work.rebuildHeld
  split
  · exact .upd (.after (keeps_handOver _ _) (keeps_modVisit _ _ _))
  · exact keeps_handOver _ _
  · split
    · exact .after (keeps_restTestLost _ _ _) (.upd (.after keeps_modBay (keeps_closeVisit _ _)))
    · exact .upd keeps_modBay

theorem keeps_rebuildBay (w : Work) (b : Bay) : Keeps w.s (w.rebuildBay b).s := by
  unfold Work.rebuildBay
  dsimp only
  split
  · split
    · exact keeps_rebuildHeld _ _ _ _
    · exact .refl _
  · split
    · exact .upd (.after (keeps_notify _ _) keeps_modBay)
    · exact keeps_restTestLost _ _ _

theorem keeps_resumeMode (w : Work) : Keeps w.s w.resumeMode.s := by
  unfold Work.resumeMode
  split
  · exact keeps_enterDrain _ _
  · exact .refl _

theorem keeps_warmRestart (w : Work) (cause : RestartCause) (levels : FieldLevels) :
    Keeps w.s (w.warmRestart cause levels).s := by
  unfold Work.warmRestart
  refine .after (keeps_resumeMode _) (.later (.upd ?_))
  refine .after (keeps_chooseIfIdle _) (.after (keeps_startWrite _) (.after (keeps_testPending _) ?_))
  refine .after (Keeps.foldl Work.s keeps_rebuildBay _ _) (.upd (.after (keeps_cutQueue _) (.after
    (keeps_returnCalled _) ?_)))
  refine .after (Keeps.foldl Work.s (fun _ _ => keeps_endPhase _ _ _ _) _ _) (.upd (.after (keeps_notify _ _) ?_))
  exact .upd (.after (keeps_decideReclaim _) (keeps_warmBase _ _))

/-! ## Commands -/

/-- A command that answers a state keeps what leads to that state. -/
theorem keeps_next_state {s t u : State} (h : Keeps s u)
    (ht : (Host.Outcome.next u : Host.Outcome State Fault Refusal) = .next t) : Keeps s t := by
  cases ht
  exact h

theorem keeps_command {s u t : State} {f : Work → Work} (hu : Keeps s u) (hf : Keeps (Work.mk u []).s (f ⟨u, []⟩).s)
    (h : Machine.run u f = .next t) : Keeps s t :=
  keeps_next_state (.after (keeps_settle _) (.after hf hu)) h

/-- An expiry moves the timebase on to its time and acts there, or does nothing (log 2). -/
theorem keeps_expiry {s t : State} {o : Option Nat} {f : Work → Work} (hf : ∀ w, Keeps w.s (f w).s)
    (h : onExpiry s o f = .next t) : Keeps s t := by
  cases o with
  | none => exact keeps_next_state (.refl s) h
  | some due => exact keeps_command (keeps_reach s due) (hf _) h

theorem keeps_linkReset {tag : Byte} {body : Body Unit} {s t : State} (h : execLinkReset tag body s = .next t) :
    Keeps s t := by
  cases body with
  | fields x => exact keeps_next_state (.after (keeps_receiveReset _ _ _) keeps_modLink_frame) h
  | wrongLength => exact keeps_next_state (keeps_receiveReset s _ _) h

theorem keeps_warmRestartRow {cause : RestartCause} {levels : FieldLevels} {s t : State}
    (h : execWarmRestart cause levels s = .next t) : Keeps s t :=
  keeps_command (.refl s) (keeps_warmRestart _ _ _) h

theorem keeps_treadleLevelChange {l : Lane} {x : Treadle} {on : Bool} {s t : State}
    (h : execTreadleLevelChange l x on s = .next t) : Keeps s t :=
  keeps_command (.refl s) (.upd (keeps_modLane fun _ => setTreadle_fits x _)) h

theorem keeps_debounceExpiry {l : Lane} {x : Treadle} {s t : State} (h : execDebounceExpiry l x s = .next t) :
    Keeps s t :=
  keeps_expiry (fun w => .after (keeps_treadleEvent _ _) (.upd (keeps_modLane fun _ => take_fits _ x))) h

theorem keeps_stopBeamChange {l : Lane} {on : Bool} {s t : State} (h : execStopBeamChange l on s = .next t) :
    Keeps s t := by
  unfold execStopBeamChange at h
  split at h
  · exact keeps_next_state (.refl s) h
  · exact keeps_command (.refl s) (.after (keeps_stopBeamEvent _ _ _) (.upd keeps_modLane)) h

theorem keeps_clearBeamChange {l : Lane} {on : Bool} {s t : State} (h : execClearBeamChange l on s = .next t) :
    Keeps s t := by
  unfold execClearBeamChange at h
  split at h
  · exact keeps_next_state (.refl s) h
  · refine keeps_command (.refl s) ?_ h
    exact .upd (.after (keeps_clearBeamEvent _ _ _) keeps_modLane)

theorem keeps_tagRead {l : Lane} {n : TagNo} {s t : State} (h : execTagRead l n s = .next t) : Keeps s t := by
  unfold execTagRead at h
  split at h
  · exact keeps_next_state (.refl s) h
  · exact keeps_command (.refl s) (keeps_tagEvent _ _ _) h

theorem keeps_keypadPress {l : Lane} {k : Prog} {s t : State} (h : execKeypadPress l k s = .next t) : Keeps s t :=
  keeps_command (.refl s) (keeps_keyEvent _ _ _) h

theorem keeps_waitExpiry {l : Lane} {s t : State} (h : execWaitExpiry l s = .next t) : Keeps s t :=
  keeps_expiry (fun _ => .upd (keeps_refuse _ _ _ _)) h

theorem keeps_entryBarrierPulseEnd {l : Lane} {s t : State} (h : execEntryBarrierPulseEnd l s = .next t) : Keeps s t :=
  keeps_expiry (fun _ => .upd keeps_modLane) h

theorem keeps_stallExpiry {l : Lane} {s t : State} (h : execStallExpiry l s = .next t) : Keeps s t := by
  refine keeps_expiry (fun w => .upd ?_) h
  exact .after (keeps_clearLane _ _) (keeps_notify _ _)

theorem keeps_presenceSensorChange {b : Bay} {p : Presence} {on : Bool} {s t : State}
    (h : execPresenceSensorChange b p on s = .next t) : Keeps s t := by
  unfold execPresenceSensorChange at h
  split at h
  · exact keeps_next_state (.refl s) h
  · exact keeps_command (.refl s) (.after (keeps_sensorEvent _ _) (.upd (keeps_modBay (by cases p <;> rfl)))) h

theorem keeps_exitButtonPress {b : Bay} {s t : State} (h : execExitButtonPress b s = .next t) : Keeps s t := by
  unfold execExitButtonPress at h
  split at h
  · exact keeps_command (.refl s) (keeps_cutWash _ _ _ _) h
  · exact keeps_command (.refl s) (.upd keeps_modBay) h
  · exact keeps_command (.refl s) (keeps_enterReleasing _ _) h
  · exact keeps_next_state (.refl s) h

theorem keeps_callTimerExpiry {b : Bay} {s t : State} (h : execCallTimerExpiry b s = .next t) : Keeps s t := by
  refine keeps_expiry (fun w => ?_) h
  split
  · exact keeps_noShow _ _ _
  · exact .upd keeps_modBay

theorem keeps_settleTimerExpiry {b : Bay} {s t : State} (h : execSettleTimerExpiry b s = .next t) : Keeps s t :=
  keeps_expiry (fun w => keeps_settled w b) h

theorem keeps_lossFilterExpiry {b : Bay} {s t : State} (h : execLossFilterExpiry b s = .next t) : Keeps s t :=
  keeps_expiry (fun w => keeps_cutWash w b _ _) h

theorem keeps_exitPulseExpiry {b : Bay} {s t : State} (h : execExitPulseExpiry b s = .next t) : Keeps s t :=
  keeps_expiry (fun _ => .upd keeps_modBay) h

theorem keeps_exitStallExpiry {b : Bay} {s t : State} (h : execExitStallExpiry b s = .next t) : Keeps s t := by
  refine keeps_expiry (fun w => .upd ?_) h
  exact .after (keeps_notify _ _) keeps_modBay

theorem keeps_sensorTimerExpiry {b : Bay} {s t : State} (h : execSensorTimerExpiry b s = .next t) : Keeps s t := by
  refine keeps_expiry (fun w => .upd ?_) h
  exact .after (keeps_bayNotice _ _ _ _) keeps_modBay

theorem keeps_meterPulse {b : Bay} {m : Meter} {s t : State} (h : execMeterPulse b m s = .next t) : Keeps s t :=
  keeps_command (.refl s) (keeps_pulse _ _ _) h

theorem keeps_nozzleTimeout {b : Bay} {s t : State} (h : execNozzleTimeout b s = .next t) : Keeps s t :=
  keeps_expiry (fun _ => .upd (keeps_modPlan fun p => delivered_nozzleMove p _)) h

theorem keeps_phaseTimeLimit {b : Bay} {s t : State} (h : execPhaseTimeLimit b s = .next t) : Keeps s t := by
  unfold execPhaseTimeLimit at h
  split at h
  · split at h
    · exact keeps_command (keeps_reach s _) (keeps_endPhase _ _ _ _) h
    · exact keeps_next_state (.refl s) h
  · exact keeps_next_state (.refl s) h

theorem keeps_waitLimit {b : Bay} {s t : State} (h : execWaitLimit b s = .next t) : Keeps s t := by
  unfold execWaitLimit at h
  split at h
  · split at h
    · exact keeps_command (keeps_reach s _) (keeps_endPhase _ _ _ _) h
    · exact keeps_next_state (.refl s) h
  · exact keeps_next_state (.refl s) h

theorem keeps_conversionCompletion {code : BitVec 10} {s t : State} (h : execConversionCompletion code s = .next t) :
    Keeps s t := by
  unfold execConversionCompletion at h
  split at h
  · exact keeps_command (keeps_reach s _) (keeps_completeConversion _ _ _) h
  · exact keeps_next_state (.refl s) h

theorem keeps_backgroundPeriodDue {ch : Channel} {s t : State} (h : execBackgroundPeriodDue ch s = .next t) :
    Keeps s t := by
  unfold execBackgroundPeriodDue at h
  dsimp only at h
  split at h
  · exact keeps_command (keeps_reach s _) (keeps_chooseIfIdle _) h
  · exact keeps_next_state (.refl s) h

theorem keeps_holdTimerExpiry {s t : State} (h : execHoldTimerExpiry s = .next t) : Keeps s t :=
  keeps_expiry (fun _ => .upd (keeps_endHold _)) h

theorem keeps_pumpStartLeadExpiry {ch : Supply} {s t : State} (h : execPumpStartLeadExpiry ch s = .next t) :
    Keeps s t := by
  unfold execPumpStartLeadExpiry at h
  split at h
  · exact keeps_command (keeps_reach s _) (keeps_grant _ _ _) h
  · exact keeps_next_state (.refl s) h

theorem keeps_grantTimeoutRow {ch : Supply} {s t : State} (h : execGrantTimeout ch s = .next t) : Keeps s t := by
  unfold execGrantTimeout at h
  split at h
  · exact keeps_command (keeps_reach s _) (keeps_grantTimeout _ _ _) h
  · exact keeps_next_state (.refl s) h

theorem keeps_drawMaxCut {ch : Supply} {s t : State} (h : execDrawMaxCut ch s = .next t) : Keeps s t := by
  unfold execDrawMaxCut at h
  split at h
  · exact keeps_command (keeps_reach s _) (keeps_cutDraw _ _ _) h
  · exact keeps_next_state (.refl s) h

theorem keeps_runOnExpiry {ch : Supply} {s t : State} (h : execRunOnExpiry ch s = .next t) : Keeps s t := by
  unfold execRunOnExpiry at h
  split at h
  · exact keeps_command (keeps_reach s _) (keeps_setChannel _ _ _) h
  · exact keeps_next_state (.refl s) h

theorem keeps_purgeTimerExpiry {s t : State} (h : execPurgeTimerExpiry s = .next t) : Keeps s t :=
  keeps_expiry keeps_purgeTimer h

theorem keeps_purgeCompletion {s t : State} (h : execPurgeCompletion s = .next t) : Keeps s t := by
  unfold execPurgeCompletion at h
  split at h
  · exact keeps_command (keeps_reach s _) (keeps_completePurge _ _) h
  · exact keeps_next_state (.refl s) h

theorem keeps_windowEnd {s t : State} (h : execWindowEnd s = .next t) : Keeps s t := by
  unfold execWindowEnd at h
  split at h
  · exact keeps_expiry keeps_endWindow h
  · exact keeps_next_state (.refl s) h

theorem keeps_slotEnd {s t : State} (h : execSlotEnd s = .next t) : Keeps s t := by
  unfold execSlotEnd at h
  split at h
  · exact keeps_expiry keeps_endSlot h
  · exact keeps_next_state (.refl s) h

theorem keeps_reclaimPulseRow {s t : State} (h : execReclaimPulse s = .next t) : Keeps s t :=
  keeps_command (.refl s) (keeps_reclaimPulse _) h

theorem keeps_dischargeValveClose {s t : State} (h : execDischargeValveClose s = .next t) : Keeps s t :=
  keeps_expiry (fun _ => .upd keeps_modLoop_frame) h

theorem keeps_persistTimerExpiry {s t : State} (h : execPersistTimerExpiry s = .next t) : Keeps s t :=
  keeps_expiry keeps_persistExpiry h

theorem keeps_deferralExpiry {s t : State} (h : execDeferralExpiry s = .next t) : Keeps s t :=
  keeps_expiry (fun w => keeps_enterDrain w _) h

theorem keeps_writeCompletion {s t : State} (h : execWriteCompletion s = .next t) : Keeps s t :=
  keeps_command (.refl s) (keeps_completeWrite _) h

theorem keeps_refillCompletion {b : Bay} {s t : State} (h : execRefillCompletion b s = .next t) : Keeps s t := by
  unfold execRefillCompletion at h
  split at h
  · rename_i r hr
    refine keeps_command (keeps_reach s _) (keeps_refillDone r ?_) h
    simp [hr]
  · exact keeps_next_state (.refl s) h

theorem keeps_ageing {q : Seq} {s t : State} (h : execAgeing q s = .next t) : Keeps s t := by
  unfold execAgeing at h
  split at h
  · exact keeps_command (keeps_reach s _) (keeps_age _ _) h
  · exact keeps_next_state (.refl s) h

theorem keeps_tick (s : State) : Keeps s s.tick := by
  unfold State.tick
  dsimp only
  split
  · exact keeps_clock _ _
  · exact .after (keeps_midnight _ _) (keeps_clock _ _)

theorem keeps_clockSecond {s t : State} (h : execClockSecond s = .next t) : Keeps s t :=
  keeps_command (keeps_reach s _) (keeps_tick _) h

/-- Every command keeps the queue and each invariant. -/
theorem keeps_exec {c : Instr} {s t : State} (h : exec c s = .next t) : Keeps s t := by
  cases c with
  | linkReset tag body => exact keeps_linkReset h
  | frameReceived bytes => exact keeps_next_state (keeps_lineBytes s bytes) h
  | interByteGap bytes => exact keeps_next_state (keeps_lineGap s bytes) h
  | badLengthByte bytes => exact keeps_next_state (keeps_lineBytes s bytes) h
  | lineBreak => exact keeps_next_state (keeps_lineBroken s) h
  | frameSent => exact keeps_next_state (keeps_frameSent s) h
  | coldStart levels => exact keeps_next_state (keeps_coldStart s levels) h
  | warmRestart cause levels => exact keeps_warmRestartRow h
  | treadleLevelChange lane treadle on => exact keeps_treadleLevelChange h
  | debounceExpiry lane treadle => exact keeps_debounceExpiry h
  | stopBeamChange lane active => exact keeps_stopBeamChange h
  | clearBeamChange lane active => exact keeps_clearBeamChange h
  | keypadPress lane key => exact keeps_keypadPress h
  | tagRead lane number => exact keeps_tagRead h
  | stallExpiry lane => exact keeps_stallExpiry h
  | waitExpiry lane => exact keeps_waitExpiry h
  | entryBarrierPulseEnd lane => exact keeps_entryBarrierPulseEnd h
  | presenceSensorChange bay sensor active => exact keeps_presenceSensorChange h
  | exitButtonPress bay => exact keeps_exitButtonPress h
  | callTimerExpiry bay => exact keeps_callTimerExpiry h
  | settleTimerExpiry bay => exact keeps_settleTimerExpiry h
  | lossFilterExpiry bay => exact keeps_lossFilterExpiry h
  | exitPulseExpiry bay => exact keeps_exitPulseExpiry h
  | exitStallExpiry bay => exact keeps_exitStallExpiry h
  | sensorTimerExpiry bay => exact keeps_sensorTimerExpiry h
  | meterPulse bay meter => exact keeps_meterPulse h
  | phaseTimeLimit bay => exact keeps_phaseTimeLimit h
  | waitLimit bay => exact keeps_waitLimit h
  | nozzleTimeout bay => exact keeps_nozzleTimeout h
  | conversionCompletion code => exact keeps_conversionCompletion h
  | backgroundPeriodDue channel => exact keeps_backgroundPeriodDue h
  | holdTimerExpiry => exact keeps_holdTimerExpiry h
  | pumpStartLeadExpiry supply => exact keeps_pumpStartLeadExpiry h
  | grantTimeout supply => exact keeps_grantTimeoutRow h
  | drawMaxCut supply => exact keeps_drawMaxCut h
  | runOnExpiry supply => exact keeps_runOnExpiry h
  | purgeTimerExpiry => exact keeps_purgeTimerExpiry h
  | purgeCompletion => exact keeps_purgeCompletion h
  | windowEnd => exact keeps_windowEnd h
  | slotEnd => exact keeps_slotEnd h
  | reclaimPulse => exact keeps_reclaimPulseRow h
  | dischargeValveClose => exact keeps_dischargeValveClose h
  | refillCompletion bay => exact keeps_refillCompletion h
  | persistTimerExpiry => exact keeps_persistTimerExpiry h
  | deferralExpiry => exact keeps_deferralExpiry h
  | writeCompletion => exact keeps_writeCompletion h
  | ageing seq => exact keeps_ageing h
  | clockSecond => exact keeps_clockSecond h
  | _ => exact keeps_next_state (keeps_offer s _ _) h

/-! ## Steps -/

/-- A step with a command waiting takes the command's rest of the queue first; a step without one moves only the
timebase. Of both, each invariant says nothing. -/
theorem step_cases {s t : State} (h : step s = .next t) :
    t = { s with now := s.now + 1 } ∨
      ∃ c rest, s.pending = c :: rest ∧ Keeps { s with pending := rest } t := by
  unfold step at h
  split at h
  · cases h
    exact .inl rfl
  · rename_i c rest hp
    exact .inr ⟨c, rest, hp, keeps_exec h⟩

/-- An invariant that does not read the queue or the timebase, and that every command keeps, is kept by every step. -/
theorem step_keeps {P : State → Prop} (hnow : ∀ s : State, P s → P { s with now := s.now + 1 })
    (hqueue : ∀ (s : State) rest, P s → P { s with pending := rest }) (hk : ∀ s t, Keeps s t → P s → P t)
    (s t : State) (hs : P s) (h : step s = .next t) : P t := by
  rcases step_cases h with rfl | ⟨c, rest, _, hkeep⟩
  · exact hnow s hs
  · exact hk _ _ hkeep (hqueue s rest hs)

/-- Settles O3: every operation keeps the queue. -/
theorem execKeepsTheQueue : Obligations.ExecKeepsTheQueue := fun _ _ _ h => (keeps_exec h).queue

/-- Settles O5: each booking moves both sides of the balance law alike, and rests on the line-filled flags where a refill
is booked and on the carry-off where a phase ends. -/
theorem stepKeepsLoopBalance : Obligations.StepKeepsLoopBalance :=
  step_keeps (fun _ => id) (fun _ _ => id) fun _ _ h => h.loop

/-- Settles O6: each push is followed by a pump, and the holding list is filled only below its bound. -/
theorem stepKeepsLinkBounds : Obligations.StepKeepsLinkBounds :=
  step_keeps (fun _ => id) (fun _ _ => id) fun _ _ h => h.link

/-- Settles O7: the tables are changed by put, delete, update and filter alone. -/
theorem stepKeepsTablesCanonical : Obligations.StepKeepsTablesCanonical :=
  step_keeps (fun _ => id) (fun _ _ => id) fun _ _ h => h.tables

/-- Settles O8: a count moves by passages within 0..15 and a tag joins a list it is not in; the debt stops at 3, and a bay
served moves to the end of the order. -/
theorem laneAndSupplyBoundsKept : Obligations.LaneAndSupplyBoundsKept :=
  ⟨step_keeps (fun _ => id) (fun _ _ => id) fun _ _ h => h.lanes,
    step_keeps (fun _ => id) (fun _ _ => id) fun _ _ h => h.supply⟩

/-- Settles O1: the queue that a step finds is the command with the rest behind it. -/
theorem stepTakesTheFront : Obligations.StepTakesTheFront := fun _ _ => step_cons rfl

/-- Settles O2: the queue's case of `step`. -/
theorem idleStepIsOneMillisecond : Obligations.IdleStepIsOneMillisecond := by
  intro s h
  unfold step
  rw [h]

/-- Settles O4: the reset state is a cold start's but for START in transmission and the converter's first choice, and no
invariant reads the frame being sent but where none is. -/
theorem invAtReset : Obligations.InvAtReset := by
  refine ⟨⟨rfl, linesTold_cold _, ?carryOff⟩, ?link, ⟨rfl, rfl, rfl⟩, lanesSound_start _ _ _ rfl, ?supply⟩
  case carryOff =>
    show 40 ≤ 1000
    decide
  case link => exact ⟨Nat.zero_le _, Nat.zero_le _, fun h => absurd h (by simp [State.reset])⟩
  case supply => exact ⟨Nat.zero_le _, List.Perm.refl _⟩

end Sys2Proof.Proofs.Invariants
end

section
/-!
What the proofs about single commands share: rows written twice, consequences taken one by one, the consequences that
bring nothing, and a request that is taken at once, whose owner sees it in the holding list and does not read that list.
-/

namespace Sys2Proof.Proofs.Running

open Sys2Proof Sys2Proof.Machine Sys2Proof.Safety

set_option Elab.async false

/-! ## Rows -/

theorem six_get_set {α : Type} (v : Six α) (b c : Bay) (x : α) :
    (v.set b x).get c = if c = b then x else v.get c := by
  split
  · subst_vars
    exact Six.get_set_same _ _ _
  · exact Six.get_set_ne _ _ _ _ ‹_›

@[simp] theorem six_set_set {α : Type} (v : Six α) (b : Bay) (x y : α) : (v.set b x).set b y = v.set b y := by
  cases b <;> rfl

@[simp] theorem six_set_get {α : Type} (v : Six α) (b : Bay) : v.set b (v.get b) = v := by
  cases b <;> rfl

@[simp] theorem pair_set_set {α : Type} (v : Pair α) (l : Lane) (x y : α) : (v.set l x).set l y = v.set l y := by
  cases l <;> rfl

@[simp] theorem pair_set_get {α : Type} (v : Pair α) (l : Lane) : v.set l (v.get l) = v := by
  cases l <;> rfl

theorem six_ext {α : Type} {v w : Six α} (h : ∀ b, v.get b = w.get b) : v = w := by
  obtain ⟨a1, a2, a3, a4, a5, a6⟩ := v
  obtain ⟨b1, b2, b3, b4, b5, b6⟩ := w
  obtain rfl := h .bay1
  obtain rfl := h .bay2
  obtain rfl := h .bay3
  obtain rfl := h .bay4
  obtain rfl := h .bay5
  obtain rfl := h .bay6
  rfl

@[simp] theorem modLane_modLane (s : State) (l : Lane) (f g : LaneRecord → LaneRecord) :
    (s.modLane l f).modLane l g = s.modLane l (g ∘ f) := by
  cases l <;> rfl

@[simp] theorem modBay_modBay (s : State) (b : Bay) (f g : BayRecord → BayRecord) :
    (s.modBay b f).modBay b g = s.modBay b (g ∘ f) := by
  cases b <;> rfl

@[simp] theorem modPlan_modPlan (s : State) (b : Bay) (f g : PhaseRun → PhaseRun) :
    (s.modPlan b f).modPlan b g = s.modPlan b (g ∘ f) := by
  simp only [State.modPlan, State.modRunner, Six.get_set_same, six_set_set, Option.map_map]

theorem modPlan_some {s : State} {b : Bay} {p : PhaseRun} (h : s.plan? b = some p) (f : PhaseRun → PhaseRun) :
    s.modPlan b f = { s with pr := s.pr.set b { s.pr.get b with plan := some (f p) } } := by
  unfold State.plan? at h
  simp [State.modPlan, State.modRunner, h]

theorem mem_bays (b : Bay) : b ∈ Bay.all := by
  cases b <;> decide

/-! ## Consequences, one by one -/

/-- The first consequence is taken, and what it brings is taken before the rest. -/
theorem settle_cons {s u : State} {t : Task} {ts rest : List Task} (h : (Work.mk s []).handle t = ⟨u, ts⟩) :
    (Work.mk s (t :: rest)).settle = (Work.mk u (ts ++ rest)).settle := by
  rw [Work.settle_next, Work.next_cons, h]

/-- A consequence that brings no other. -/
theorem settle_done {s u : State} {t : Task} {rest : List Task} (h : (Work.mk s []).handle t = ⟨u, []⟩) :
    (Work.mk s (t :: rest)).settle = (Work.mk u rest).settle := settle_cons h

/-- A command that leaves a state and some consequences. -/
theorem run_next {s u t : State} {ts : List Task} {f : Work → Work} (hf : f ⟨s, []⟩ = ⟨u, ts⟩)
    (ht : (Work.mk u ts).settle = t) : Machine.run s f = .next t := by
  rw [Machine.run, hf, ht]

/-! ## Consequences that bring nothing -/

theorem bestBay_none {s : State} (h : ∀ b, s.qualifies b = false) (n : Nat) : s.bestBay n = none := by
  have : (Bay.all.filter fun b => s.qualifies b && decide (n ≤ s.settings.maxSegments.get b)) = [] := by
    simp [h]
  rw [State.bestBay, this]
  rfl

theorem callIfFits_none {s : State} (h : ∀ b, s.qualifies b = false) (n : Nat) : s.callIfFits n = s := by
  unfold State.callIfFits
  split
  · rfl
  · rw [bestBay_none h]

/-- With no bay that qualifies a matching pass calls nobody (R51). -/
theorem matchPass_calm {s : State} (h : ∀ b, s.qualifies b = false) (ts : List Task) :
    (Work.mk s ts).matchPass = ⟨s, ts⟩ := by
  have hf : ∀ l : List Nat, l.foldl State.callIfFits s = s := by
    intro l
    induction l with
    | nil => rfl
    | cons n l ih => rw [List.foldl_cons, callIfFits_none h, ih]
  simp [Work.matchPass, hf]

theorem qualifies_of_noEmptyBay {s : State} (h : NoEmptyBay s) (b : Bay) : s.qualifies b = false := by
  simp [State.qualifies, h b]

theorem qualifies_of_mode {s : State} (h : s.lm.mode ≠ .opened) (b : Bay) : s.qualifies b = false := by
  simp [State.qualifies, h]

theorem handle_matchPass_calm {s : State} (h : ∀ b, s.qualifies b = false) :
    (Work.mk s []).handle .matchPass = ⟨s, []⟩ := matchPass_calm h []

theorem firstRequest_none {s : State} (h : s.sa.requests = Six.all false) : s.firstRequest = none := by
  simp [State.firstRequest, h]

/-- With no request standing a grant pass allots nothing (R142). -/
theorem handle_grantPass_calm {s : State} (h : s.sa.requests = Six.all false) :
    (Work.mk s []).handle .grantPass = ⟨s, []⟩ := by
  rw [Work.handle_grantPass, grantOne_noRequest (firstRequest_none h), grantOne_noRequest (firstRequest_none h)]

/-- Where something forbids a grant, a grant pass allots nothing (R142). -/
theorem handle_grantPass_forbidden {s : State} (h : s.grantsAllowed = false) :
    (Work.mk s []).handle .grantPass = ⟨s, []⟩ := by
  rw [Work.handle_grantPass, grantOne_notAllowed h, grantOne_notAllowed h]

theorem purgeReady_of_debt {s : State} (h : s.sa.debt = 0) : s.purgeReady = false := by
  simp [State.purgeReady, h]

theorem handle_drainCheck_calm {s : State} (h : s.lm.drainPending = none) :
    (Work.mk s []).handle .drainCheck = ⟨s, []⟩ := by
  simp [Work.handle, Work.drainCheck, h]

/-! ## Notices and the holding list -/

/-- The state with other requests in the holding list. -/
def withHeld (s : State) (l : List Held) : State := s.modLink fun k => { k with holding := l }

theorem holdingOne_eq (s : State) (tag : Byte) (r : Request) : s.holdingOne tag r = withHeld s [⟨tag, r⟩] := rfl

theorem withHeld_withHeld (s : State) (l m : List Held) : withHeld (withHeld s l) m = withHeld s m := rfl

theorem withHeld_same {s : State} {l : List Held} (h : s.lp.holding = l) : withHeld s l = s := by
  subst h
  rfl

theorem pump_withHolding (k : Link) (l : List Held) :
    ({ k with holding := l } : Link).pump = { k.pump with holding := l } := by
  obtain ⟨rx, h, replies, notices, tx, lost, a, b, c, d, m, x⟩ := k
  rcases tx with _ | f
  · rcases replies with _ | ⟨r, rest⟩
    · rcases notices with _ | ⟨n, rest⟩ <;> rfl
    · rfl
  · rfl

theorem pushNotice_withHolding (k : Link) (l : List Held) (n : Notice) :
    ({ k with holding := l } : Link).pushNotice n = { k.pushNotice n with holding := l } := by
  unfold Link.pushNotice
  dsimp only
  split <;> rfl

/-- A notice goes the same way whatever is held. -/
@[simp] theorem notify_withHeld (s : State) (l : List Held) (n : Notice) :
    (withHeld s l).notify n = withHeld (s.notify n) l := by
  have h : (({ s.lp with holding := l } : Link).pushNotice n).pump = { (s.lp.pushNotice n).pump with holding := l } := by
    rw [pushNotice_withHolding, pump_withHolding]
  exact congrArg (fun k => { s with lp := k }) h

@[simp] theorem notify_holding (s : State) (n : Notice) : (s.notify n).lp.holding = s.lp.holding := by
  simp

/-! ## A request taken at once -/

theorem formReply_withHeld (s : State) (l : List Held) (f : ReplyForm) : (withHeld s l).formReply f = s.formReply f := by
  cases f <;> rfl

/-- A request taken at once is carried out with itself in the holding list; its reply is formed when its consequences
have been taken, and the list is empty again (R200). -/
theorem offer_settled {s v : State} {tag : Byte} {r : Request} {a : Answered} (hs : LinkReady s)
    (ho : (Work.mk (withHeld s [⟨tag, r⟩]) []).owner r = a) (hv : a.1.settle = withHeld v [⟨tag, r⟩])
    (hh : v.lp.holding = []) :
    s.offer tag r = v.answer ⟨r.replyKind, tag, (v.formReply a.2).1, (v.formReply a.2).2⟩ := by
  have hk : Work.run a.1.weight a.1 = ⟨withHeld v [⟨tag, r⟩], []⟩ := by rw [Work.run_settle, hv]
  rw [request_settled hs.1 hs.2 ho hk rfl, formReply_withHeld]
  show (withHeld v []).answer _ = v.answer _
  rw [withHeld_same hh]

/-- A request whose owner does one operation on the state, which does not read the holding list. -/
theorem offer_done {s v : State} {tag : Byte} {r : Request} {c : ResultCode} {d : ReplyData} (hs : LinkReady s)
    (ho : (Work.mk (withHeld s [⟨tag, r⟩]) []).owner r = (⟨withHeld v [⟨tag, r⟩], []⟩, .ready c d))
    (hh : v.lp.holding = []) : s.offer tag r = v.answer ⟨r.replyKind, tag, c, d⟩ :=
  offer_settled hs ho (Work.settle_done _) hh

/-- A request that its owner answers without doing anything. -/
theorem offer_says {s : State} {tag : Byte} {r : Request} {c : ResultCode} {d : ReplyData} (hs : LinkReady s)
    (ho : ∀ w : Work, w.s = withHeld s [⟨tag, r⟩] → w.owner r = (w, .ready c d)) :
    s.offer tag r = s.answer ⟨r.replyKind, tag, c, d⟩ :=
  offer_done hs (ho _ rfl) hs.1

end Sys2Proof.Proofs.Running
end

section
/-!
The Link Port: what the receiver makes of an envelope and of the errors of the line, what becomes of a request that is
offered, and the link restart (R198 to R203).
-/

namespace Sys2Proof.Proofs.LinkPort

open Sys2Proof Sys2Proof.Machine Sys2Proof.Safety Sys2Proof.Proofs.Running

set_option Elab.async false

/-! ## The receiver (R198) -/

theorem byte_toNat {n : Nat} (h : n < 256) : (byte n).toNat = n := by
  simpa [byte] using h

/-- A whole frame with a good check is handed on, and the receiver goes on behind it. -/
theorem scan_good {fuel : Nat} {n : Byte} {inner rest : List Byte} (h2 : 2 ≤ n.toNat) (h242 : n.toNat ≤ 242)
    (hl : inner.length = n.toNat) :
    scan (fuel + 1) (0xC3#8 :: n :: (inner ++ (crcBytes (n :: inner) ++ rest))) =
      ((scan fuel rest).1, .frame (inner.getD 0 0) (inner.getD 1 0) (inner.drop 2) :: (scan fuel rest).2) := by
  have htake : (inner ++ (crcBytes (n :: inner) ++ rest)).take n.toNat = inner := List.take_left' hl
  have hdrop : (inner ++ (crcBytes (n :: inner) ++ rest)).drop n.toNat = crcBytes (n :: inner) ++ rest :=
    List.drop_left' hl
  have hcheck : (crcBytes (n :: inner) ++ rest).take 2 = crcBytes (n :: inner) := List.take_left' rfl
  have hrest : (inner ++ (crcBytes (n :: inner) ++ rest)).drop (n.toNat + 2) = rest := by
    rw [← List.drop_drop, hdrop]
    exact List.drop_left' rfl
  have hlong : ¬ (inner ++ (crcBytes (n :: inner) ++ rest)).length < n.toNat + 2 := by
    simp [hl, crcBytes]
  have hlen : ¬ (n.toNat < 2 ∨ 242 < n.toNat) := by omega
  rw [scan, if_neg (by simp)]
  dsimp only
  rw [if_neg hlen, if_neg hlong, htake, hdrop, hcheck, hrest, if_pos rfl]

/-- A frame that is not whole stays in the buffer. -/
theorem scan_short {fuel : Nat} {n : Byte} {more : List Byte} (h2 : 2 ≤ n.toNat) (h242 : n.toNat ≤ 242)
    (hl : more.length < n.toNat + 2) : scan (fuel + 1) (0xC3#8 :: n :: more) = (0xC3#8 :: n :: more, []) := by
  have hlen : ¬ (n.toNat < 2 ∨ 242 < n.toNat) := by omega
  rw [scan, if_neg (by simp)]
  dsimp only
  rw [if_neg hlen, if_pos hl]

/-- A bad length byte is a framing error, and is scanned again as the line's next byte. -/
theorem scan_badLength {fuel : Nat} {n : Byte} {more : List Byte} (h : n.toNat < 2 ∨ 242 < n.toNat) :
    scan (fuel + 1) (0xC3#8 :: n :: more) = ((scan fuel (n :: more)).1, .framingError :: (scan fuel (n :: more)).2) := by
  rw [scan, if_neg (by simp)]
  dsimp only
  rw [if_pos h]

/-- HUNT discards what is no start byte. -/
theorem scan_hunt {fuel : Nat} {c : Byte} {rest : List Byte} (h : c ≠ 0xC3#8) :
    scan (fuel + 1) (c :: rest) = scan fuel rest := by
  rw [scan.eq_def]
  exact if_pos h

@[simp] theorem scan_nil (fuel : Nat) : scan fuel [] = ([], []) := by
  cases fuel <;> rfl

/-- Settles O9. The envelope's length byte counts the kind, the tag and the body, and its check is theirs. -/
theorem receiverReadsEnvelope : Obligations.ReceiverReadsEnvelope := by
  intro kind tag body hb
  have hn : (byte (body.length + 2)).toNat = body.length + 2 := byte_toNat (by omega)
  have h := scan_good (fuel := body.length + 6) (n := byte (body.length + 2)) (inner := kind :: tag :: body) (rest := [])
    (by omega) (by omega) (by simp [hn])
  rw [List.append_nil, scan_nil] at h
  have hl : (envelope kind tag body).length = body.length + 6 := by simp [envelope, crcBytes]
  rw [scanAll, hl]
  exact h

/-! ## Receiving on an empty buffer -/

theorem rxBuf_emptied {s : State} (h : s.lp.rxBuf = []) : (s.modLink fun l => { l with rxBuf := [] }) = s := by
  simp [State.modLink, ← h]

theorem lineBytes_clean {s : State} {bytes : List Byte} {events : List RxEvent} (h : s.lp.rxBuf = [])
    (hb : scanAll bytes = ([], events)) : s.lineBytes bytes = s.receive events := by
  rw [State.lineBytes, h, List.nil_append, hb]
  exact congrArg (·.receive events) (rxBuf_emptied h)

theorem lineGap_clean {s : State} {bytes left : List Byte} {events : List RxEvent} (h : s.lp.rxBuf = [])
    (hb : scanAll bytes = (left, events)) :
    s.lineGap bytes = s.receive (events ++ if left.isEmpty then [] else [.framingError]) := by
  rw [State.lineGap, h, List.nil_append, hb]
  exact congrArg (State.receive · _) (rxBuf_emptied h)

theorem exec_interByteGap (bytes : List Byte) (s : State) : exec (.interByteGap bytes) s = .next (s.lineGap bytes) := rfl

theorem exec_badLengthByte (bytes : List Byte) (s : State) :
    exec (.badLengthByte bytes) s = .next (s.lineBytes bytes) := rfl

theorem exec_frameReceived (bytes : List Byte) (s : State) :
    exec (.frameReceived bytes) s = .next (s.lineBytes bytes) := rfl

theorem lineErrorsAreCounted : Clause.LineErrorsAreCounted := by
  intro n more s hr
  refine ⟨fun h2 h242 hl => ?gap, fun h => ?length⟩
  case gap =>
    rw [exec_interByteGap, lineGap_clean hr (scan_short h2 h242 hl)]
    rfl
  case length =>
    have hs : n ≠ 0xC3#8 := by
      rintro rfl
      revert h
      decide
    have hscan : scanAll [0xC3#8, n] = ([], [.framingError]) := by
      rw [scanAll]
      simp only [List.length_cons, List.length_nil]
      rw [scan_badLength h, scan_hunt hs, scan_nil]
    rw [exec_badLengthByte, lineBytes_clean hr hscan]
    rfl

/-! ## The transmitter (R201) -/

theorem transmitterTakesRepliesFirst : Clause.TransmitterTakesRepliesFirst := by
  intro s f hf hh
  have sent : exec .frameSent s = .next (s.modLink fun l => ({ l with tx := none } : Link).pump) := by
    have hd : (s.modLink fun l => ({ l with tx := none } : Link).pump).lp.holding = [] := by simpa using hh
    show Host.Outcome.next s.frameSent = _
    rw [State.frameSent, hf]
    exact congrArg _ (State.handover_none hd)
  rw [sent]
  refine ⟨fun r rest hr => ?_, fun n rest hr hn => ?_, fun hr hn => ?_⟩
  · simp [State.modLink, Link.pump, hr]
  · simp [State.modLink, Link.pump, hr, hn]
  · simp [State.modLink, Link.pump, hr, hn]

/-- Settles O14. -/
theorem lineErrorsAndTransmitter : Obligations.LineErrorsAndTransmitter :=
  ⟨lineErrorsAreCounted, transmitterTakesRepliesFirst⟩

/-! ## Requests offered (R199) -/

/-- Every request row is the offer of its request. -/
theorem exec_asRequest {i : Instr} {tag : Byte} {r : Request} (h : asRequest i = some (tag, r)) (s : State) :
    exec i s = .next (s.offer tag r) := by
  cases i
  case linkReset t b => cases b <;> cases h <;> rfl
  all_goals
    cases h
    try rfl

/-- Settles O12. -/
theorem fullHoldingListTurnsAway : Obligations.FullHoldingListTurnsAway := by
  intro i tag r s h
  rw [exec_asRequest h]
  refine ⟨fun hh hr => ?busy, fun hh hr => ?dropped, fun hh hr => ?waits⟩
  case busy => rw [State.offer, if_neg (Nat.not_lt.mpr hh), if_pos hr]; rfl
  case dropped => rw [State.offer, if_neg (Nat.not_lt.mpr hh), if_neg (Nat.not_lt.mpr hr)]; rfl
  case waits =>
    have stay : ∀ (u : State) (l : List Held), 8 ≤ u.lp.replies.length → u.handOn l = u := by
      intro u l hu
      cases l with
      | nil => rfl
      | cons x l => exact if_neg (Nat.not_lt.mpr hu)
    rw [State.offer, if_pos hh, State.handover, stay]
    · rfl
    · exact hr

/-! ## Requests that no owner carries out (R200) -/

/-- A kind outside the list of request kinds is decoded as unknown. -/
theorem decodeFrame_unknown {kind : Byte} (h : requestKinds.contains kind.toNat = false) (tag : Byte) (l : List Byte) :
    decodeFrame kind tag l = .unknownKind tag kind := by
  unfold decodeFrame
  split
  case h_33 => rfl
  all_goals
    rename_i hk
    rw [hk] at h
    exact absurd h (by decide)

theorem offer_unknown {s : State} (hs : LinkReady s) (tag kind : Byte) :
    s.offer tag (.unknown kind) = s.answer ⟨0xFF, tag, .unknownKind, .none⟩ :=
  offer_says hs fun _ _ => rfl

/-- Settles O10. The bytes of the frame come to the row of its kind by O9 and the decoder. -/
theorem unknownKindAnswered : Obligations.UnknownKindAnswered := by
  intro kind tag body s hs
  refine ⟨congrArg _ (offer_unknown hs tag kind), fun hk hb hr => ?_⟩
  rw [exec_frameReceived, lineBytes_clean hr (receiverReadsEnvelope kind tag body hb)]
  show Host.Outcome.next (s.receiveFrame (decodeFrame kind tag body)) = _
  rw [decodeFrame_unknown hk]
  exact congrArg _ (offer_unknown hs tag kind)

/-- A row of the list is a request that its owner answers BAD_LENGTH at once. -/
theorem wrongLengths_said (tag : Byte) : ∀ p ∈ wrongLengths tag, ∃ r : Request, asRequest p.1 = some (tag, r) ∧
    r.replyKind = p.2 + 0x80#8 ∧ ∀ w : Work, w.owner r = w.say .badLength := by
  simp only [wrongLengths, List.cons_append, List.nil_append, List.forall_mem_cons]
  refine ⟨?_, ?_, ?_, ?_, ?_, ?_, ?_, ?_, ?_, ?_, ?_, ?_, ?_, ?_, ?_, ?_, ?_, ?_, ?_, ?_, ?_, ?_, ?_, ?_, ?_, ?_, ?_, ?_,
    ?_, ?_, ?_, ?_, by simp⟩ <;> exact ⟨_, rfl, rfl, fun _ => rfl⟩

/-- Settles O11. -/
theorem badLengthAnswered : Obligations.BadLengthAnswered := by
  intro tag s hs p hp
  obtain ⟨r, hr, hkind, hsay⟩ := wrongLengths_said tag p hp
  rw [exec_asRequest hr, offer_says hs fun w _ => hsay w, hkind]

/-! ## The link restart (R203) -/

/-- Settles O13. The queues are emptied before the reply and START join them, so the transmitter, where it is idle, takes
what comes first. -/
theorem linkRestartClearsTheLink : Obligations.LinkRestartClearsTheLink := by
  intro tag s
  have reset : exec (.linkReset tag (.fields ())) s =
      .next ((s.modLink fun l => { l with rxBuf := [] }).linkResetTaken tag) := rfl
  have broken : exec .lineBreak s = .next s.lineBroken := rfl
  rw [reset, broken]
  refine ⟨fun f hf => ⟨?_, ?_⟩, fun hf => ⟨?_, ?_⟩⟩
  all_goals
    simp [State.linkResetTaken, State.lineBroken, State.clearLink, State.rewindMark, State.modLink, State.answer,
      State.notify, Link.pushReply, Link.pushNotice, Link.pump, State.headSeq, State.linkStart, State.inRing, State.mode,
      replyKind, hf]

end Sys2Proof.Proofs.LinkPort
end

section
/-!
The lanes: what each input of a lane does in each of its states, the admission decision and the call that may follow it,
the latch, and the lane's timers (R21 to R42, R51).
-/

namespace Sys2Proof.Proofs.Lanes

open Sys2Proof Sys2Proof.Machine Sys2Proof.Safety Sys2Proof.Proofs.Running

set_option Elab.async false

/-! ## The treadles (R21) -/

/-- Settles the first part of O34. -/
theorem treadleLevelTimed : Clause.TreadleLevelTimed := by
  intro l tr on s
  have h : exec (.treadleLevelChange l tr on) s = .next (s.modLane l fun r =>
      r.setTreadle tr ((r.treadle tr).rawChange on (s.now + s.settings.debounce))) := run_upd s _
  rw [h]
  unfold TreadleState.rawChange
  rfl

/-- What a taken change does to the fields of the lane that the counter does not touch. -/
theorem take_fields (r : LaneRecord) (m : AxleMode) (tr : Treadle) :
    (r.take m tr).state = r.state ∧ (r.take m tr).stopBeam = r.stopBeam ∧ (r.take m tr).wait = r.wait ∧
      (r.take m tr).treadle tr = ⟨(r.treadle tr).raw, (r.treadle tr).raw, none⟩ := by
  have hc : ∀ (x : LaneRecord) (p : Passage), (x.countPassage p).state = x.state ∧
      (x.countPassage p).stopBeam = x.stopBeam ∧ (x.countPassage p).wait = x.wait ∧
      (x.countPassage p).treadle tr = x.treadle tr := by
    intro x p
    unfold LaneRecord.countPassage
    split
    · exact ⟨rfl, rfl, rfl, rfl⟩
    · split <;> cases tr <;> exact ⟨rfl, rfl, rfl, rfl⟩
    · cases tr <;> exact ⟨rfl, rfl, rfl, rfl⟩
  unfold LaneRecord.take
  obtain ⟨h1, h2, h3, h4⟩ := hc ({ r.setTreadle tr ⟨(r.treadle tr).raw, (r.treadle tr).raw, none⟩ with
    counter := (counterMove m r.counter tr (r.treadle tr).raw (r.treadle (otherTreadle tr)).taken).1 })
    (counterMove m r.counter tr (r.treadle tr).raw (r.treadle (otherTreadle tr)).taken).2
  dsimp only
  rw [h1, h2, h3, h4]
  cases tr <;> exact ⟨rfl, rfl, rfl, rfl⟩

theorem startStall_modLane (s : State) (l : Lane) (f : LaneRecord → LaneRecord) :
    (s.modLane l f).startStall l =
      s.modLane l fun r => { f r with stall := some (s.now + 1000 * s.dt.settings.laneStall) } :=
  modLane_modLane s l f _

theorem occupy_modLane (s : State) (l : Lane) (f : LaneRecord → LaneRecord) :
    (s.modLane l f).occupy l = s.modLane l fun r =>
      { f r with state := .occupied, wait := none, stall := some (s.now + 1000 * s.dt.settings.laneStall) } := by
  rw [State.occupy, modLane_modLane, startStall_modLane]
  rfl

/-- With the stop beam inactive an arrival is the entry to OCCUPIED alone (R28). -/
theorem arrive_quiet {w : Work} {l : Lane} (h : (w.s.gu.get l).stopBeam = false) : w.arrive l = w.upd (·.occupy l) := by
  have hb : ((w.s.occupy l).gu.get l).stopBeam = false := by
    simpa [State.occupy, State.startStall] using h
  exact if_neg (by simp [Work.upd, hb])

theorem arrive_beam {w : Work} {l : Lane} (h : (w.s.gu.get l).stopBeam = true) :
    w.arrive l = (w.upd (·.occupy l)).redecide l false := by
  have hb : ((w.s.occupy l).gu.get l).stopBeam = true := by
    simpa [State.occupy, State.startStall] using h
  exact if_pos hb

theorem treadleEvent_apart {w : Work} {l : Lane}
    (h : (∃ n c, (w.s.gu.get l).state = .admitted n c) ∨ ∃ a m, (w.s.gu.get l).state = .waiting a m) :
    w.treadleEvent l = w := by
  rcases h with ⟨n, c, h⟩ | ⟨a, m, h⟩ <;> simp [Work.treadleEvent, h]

theorem treadleEvent_occupied {w : Work} {l : Lane} (h : (w.s.gu.get l).state = .occupied) :
    w.treadleEvent l = w.upd (·.startStall l) := by
  simp [Work.treadleEvent, h]

theorem treadleEvent_idle {w : Work} {l : Lane} (h : (w.s.gu.get l).state = .idle) : w.treadleEvent l = w.arrive l := by
  simp [Work.treadleEvent, h]

/-- The expiry of a running window: the change is taken on the state whose timebase is at the expiry. -/
theorem exec_debounceExpiry {l : Lane} {tr : Treadle} {s : State} {due : Nat}
    (h : ((s.gu.get l).treadle tr).window = some due) :
    exec (.debounceExpiry l tr) s = Machine.run ((s.reach due).modLane l (·.take (s.settings.axleMode.get l) tr))
      (·.treadleEvent l) := by
  show onExpiry s ((s.gu.get l).treadle tr).window _ = _
  rw [h]
  rfl

/-- The lane's record when it is OCCUPIED from a taken change on, its stall timer just started. -/
def occupiedBy (r : LaneRecord) (wait : Option Nat) (stall : Nat) : LaneRecord :=
  { r with state := .occupied, wait := wait, stall := some stall }

theorem treadle_occupiedBy (r : LaneRecord) (wait : Option Nat) (stall : Nat) (tr : Treadle) :
    (occupiedBy r wait stall).treadle tr = r.treadle tr := by
  cases tr <;> rfl

/-- A taken change of an OCCUPIED lane, or of an IDLE one with no vehicle at the stop beam. -/
theorem treadleEvent_begins {u : State} {l : Lane} {m : AxleMode} {tr : Treadle}
    (h : (u.gu.get l).state = .occupied ∨ ((u.gu.get l).state = .idle ∧ (u.gu.get l).stopBeam = false)) :
    ∃ wait, (Work.mk (u.modLane l (·.take m tr)) []).treadleEvent l =
      ⟨u.modLane l fun r => occupiedBy (r.take m tr) wait (u.now + 1000 * u.dt.settings.laneStall), []⟩ := by
  obtain ⟨htake, hbeam, hwait, -⟩ := take_fields (u.gu.get l) m tr
  have hget : (u.modLane l (·.take m tr)).gu.get l = (u.gu.get l).take m tr := Pair.get_set_same _ _ _
  rcases h with h | ⟨h, hb⟩
  · refine ⟨((u.gu.get l).take m tr).wait, (treadleEvent_occupied ((congrArg _ hget).trans (htake.trans h))).trans ?_⟩
    refine congrArg (Work.mk · []) ((startStall_modLane _ _ _).trans ?_)
    refine congrArg (fun r => { u with gu := u.gu.set l r }) ?_
    simp only [occupiedBy, ← h, ← htake]
  · refine ⟨none, (treadleEvent_idle ((congrArg _ hget).trans (htake.trans h))).trans
      ((arrive_quiet ((congrArg _ hget).trans (hbeam.trans hb))).trans ?_)⟩
    exact congrArg (Work.mk · []) (occupy_modLane _ _ _)

theorem debouncedChangeTaken : Clause.DebouncedChangeTaken := by
  intro l tr s
  refine ⟨fun h => ?none, fun due h => ⟨fun hst => ?apart, fun hst => ?begins⟩⟩
  case none =>
    show onExpiry s ((s.gu.get l).treadle tr).window _ = _
    rw [h, onExpiry_none]
  case apart =>
    have hget : ((s.reach due).modLane l (·.take (s.settings.axleMode.get l) tr)).gu.get l =
        (s.gu.get l).take (s.settings.axleMode.get l) tr := Pair.get_set_same _ _ _
    obtain ⟨htake, -⟩ := take_fields (s.gu.get l) (s.settings.axleMode.get l) tr
    rw [exec_debounceExpiry h]
    refine run_of_done ((treadleEvent_apart ?_).trans rfl)
    simpa only [hget, htake] using hst
  case begins =>
    obtain ⟨wait, hw⟩ := treadleEvent_begins (u := s.reach due) (m := s.settings.axleMode.get l) (tr := tr) hst
    obtain ⟨-, -, -, htaken⟩ := take_fields (s.gu.get l) (s.settings.axleMode.get l) tr
    refine ⟨_, (exec_debounceExpiry h).trans (run_of_done hw), rfl, ?_, ?_, ?_, ?_, ?_,
      fun l' hl => Pair.get_set_ne _ _ _ _ hl⟩
    all_goals rw [State.modLane_gu, Pair.get_set_same]
    case refine_1 => rfl
    case refine_2 => rfl
    case refine_3 => rfl
    case refine_4 => rfl
    case refine_5 => exact congrArg TreadleState.taken ((treadle_occupiedBy _ _ _ _).trans htaken)

/-- Settles O34. -/
theorem treadleChangesTaken : Obligations.TreadleChangesTaken := ⟨treadleLevelTimed, debouncedChangeTaken⟩

/-! ## The admission checks (R36) -/

/-- Outside OPEN no other check is made. -/
theorem refusal_closed {s : State} (h : s.lm.mode ≠ .opened) (tags : List TagNo) (i : Identity) (o : Bool) :
    s.refusal tags i o = some .closed := if_pos h

/-- In OPEN, checks 3 to 5 in their order, and check 6 where they pass or are passed over. -/
theorem refusal_opened {s : State} (h : s.lm.mode = .opened) (tags : List TagNo) (i : Identity) (o : Bool) :
    s.refusal tags i o =
      if !o && tags.any s.tagHeld then some .duplicate
      else if !o && s.accountBlocked i.account then some .blocked
      else if !o && i.account.isNone && s.casualRefused then some .unknown
      else if s.bayTakes i.cls then none else some .noBay := by
  rw [State.refusal, if_neg (show ¬ s.mode ≠ .opened from not_not_intro h)]
  congr 3
  cases s.bayTakes i.cls <;> rfl

theorem accountBlocked_none (s : State) : s.accountBlocked none = false := rfl

theorem mode_of_refusal_none {s : State} {tags : List TagNo} {i : Identity} {o : Bool}
    (h : s.refusal tags i o = none) : s.lm.mode = .opened := by
  by_contra hm
  rw [refusal_closed hm] at h
  cases h

/-- Settles O36. -/
theorem admissionChecksInOrder : Obligations.AdmissionChecksInOrder := by
  intro s tags i o
  refine ⟨fun h => refusal_closed h tags i o, fun h => ?opened, ?casual, ?short⟩
  case opened =>
    rw [refusal_opened h]
    refine ⟨fun ho hd => ?_, fun ho hd hb => ?_, fun ho hd hn hc => ?_, fun ho hd hb hc => ?_, fun ho => ?_⟩
    · simp [ho, List.any_eq_true.mpr hd]
    all_goals subst ho
    · simp [List.any_eq_false.mpr fun g hg => Bool.eq_false_iff.mp (hd g hg), hb]
    · simp [List.any_eq_false.mpr fun g hg => Bool.eq_false_iff.mp (hd g hg), hn, hc, accountBlocked_none]
    · have hcasual : (i.account.isNone && s.casualRefused) = false := by
        rcases hc with hc | hc
        · rw [Option.isNone_eq_false_iff.mpr (Option.isSome_iff_ne_none.mpr hc), Bool.false_and]
        · rw [hc, Bool.and_false]
      simp [List.any_eq_false.mpr fun g hg => Bool.eq_false_iff.mp (hd g hg), hb, hcasual]
    · simp
  case casual => simp [State.casualRefused, State.settings]
  case short => simp [State.short, or_assoc]

/-! ## The latch (R32) -/

/-- An upd of an absent key changes nothing. -/
theorem upd_absent {α : Type} {t : Table α} {k : Nat} (h : Table.look t k = none) (f : α → α) : Table.upd t k f = t := by
  induction t with
  | nil => rfl
  | cons e rest ih =>
    obtain ⟨j, u⟩ := e
    by_cases hj : j = k
    · simp [Table.look, hj] at h
    · simp only [Table.look, if_neg hj] at h
      simp only [Table.upd, if_neg hj, ih h]

/-- An upd that leaves the entry as it is changes nothing. -/
theorem upd_same {α : Type} {t : Table α} {k : Nat} {v : α} (h : Table.look t k = some v) {f : α → α} (hf : f v = v) :
    Table.upd t k f = t := by
  induction t with
  | nil => rfl
  | cons e rest ih =>
    obtain ⟨j, u⟩ := e
    by_cases hj : j = k
    · simp only [Table.look, if_pos hj, Option.some.injEq] at h
      simp only [Table.upd, if_pos hj, h, hf]
    · simp only [Table.look, if_neg hj] at h
      simp only [Table.upd, if_neg hj, ih h]

theorem clearBeamEvent_apart {s : State} {l : Lane} {x : Bool} (h : ∀ n c, (s.gu.get l).state ≠ .admitted n c) :
    s.clearBeamEvent l x = s := by
  unfold State.clearBeamEvent
  split
  · exact absurd ‹_› (h _ _)
  · rfl

theorem clearBeamEvent_broken {s : State} {l : Lane} {n : Nat} {c : Bool} (h : (s.gu.get l).state = .admitted n c) :
    s.clearBeamEvent l true = s.modLane l fun r => { r with state := .admitted n true } := by
  simp [State.clearBeamEvent, h]

theorem clearBeamEvent_unseen {s : State} {l : Lane} {n : Nat} (h : (s.gu.get l).state = .admitted n false) :
    s.clearBeamEvent l false = s := by
  simp [State.clearBeamEvent, h]

theorem clearBeamEvent_seen {s : State} {l : Lane} {n : Nat} (h : (s.gu.get l).state = .admitted n true) :
    s.clearBeamEvent l false = s.latch l n := by
  simp [State.clearBeamEvent, h]

/-- What the latch writes into the visit: the lane's count and flags, unless the visit is posted or priced. -/
def latched (r : LaneRecord) (priced : Bool) (v : Visit) : Visit :=
  if v.posted.isSome || priced then v
  else { v with
    axles := some r.count
    other := { v.other with axleSat := v.other.axleSat || r.axleSat, reverse := v.other.reverse || r.reverse } }

theorem latch_eq (s : State) (l : Lane) (n : Nat) :
    s.latch l n = { s with
      gu := s.gu.set l (s.gu.get l).cleared
      vq := { s.vq with visits := Table.upd s.vq.visits n (latched (s.gu.get l) (s.priced n)) } } := rfl

/-- The latch with the clear beam's new level. -/
theorem latch_clearBeam (s : State) (l : Lane) (n : Nat) :
    (s.modLane l fun r => { r with clearBeam := false }).latch l n = { s with
      gu := s.gu.set l { (s.gu.get l).cleared with clearBeam := false }
      vq := { s.vq with visits := Table.upd s.vq.visits n (latched (s.gu.get l) (s.priced n)) } } := by
  rw [latch_eq]
  simp only [State.modLane, Pair.get_set_same, pair_set_set]
  rfl

/-- A new level of the clear beam is kept, and is a lane event. -/
theorem exec_clearBeamChange {l : Lane} {x : Bool} {s : State} (h : (s.gu.get l).clearBeam = !x) :
    exec (.clearBeamChange l x) s =
      .next ((s.modLane l fun r => { r with clearBeam := x }).clearBeamEvent l x) := by
  have hne : (s.gu.get l).clearBeam ≠ x := by
    rw [h]
    cases x <;> decide
  exact (if_neg hne).trans (run_upd s _)

/-- Settles O38. The event is read off the record with its new level, whose state is the old one. -/
theorem clearBeamLatches : Obligations.ClearBeamLatches := by
  intro l s
  have hstate : ∀ x, ((s.modLane l fun r => { r with clearBeam := x }).gu.get l).state = (s.gu.get l).state := by
    intro x
    rw [State.modLane_gu, Pair.get_set_same]
  refine ⟨fun x h => if_pos h, fun x h hst => ?apart, fun n c hst h => ?broken, fun n hst h => ?unseen,
    fun n hst h cleared hc => ⟨fun v hv hp hw => ?latched, fun hv => ?gone⟩⟩
  case apart => rw [exec_clearBeamChange h, clearBeamEvent_apart (by rwa [hstate])]; rfl
  case broken =>
    rw [exec_clearBeamChange (h.trans rfl), clearBeamEvent_broken ((hstate _).trans hst), modLane_modLane]
    rfl
  case unseen => rw [exec_clearBeamChange (h.trans rfl), clearBeamEvent_unseen ((hstate _).trans hst)]; rfl
  all_goals
    rw [exec_clearBeamChange (h.trans rfl), clearBeamEvent_seen ((hstate _).trans hst), latch_clearBeam]
    subst hc
  case latched =>
    have hl : latched (s.gu.get l) (s.priced n) v = { v with
        axles := some (s.gu.get l).count
        other := { v.other with
          axleSat := v.other.axleSat || (s.gu.get l).axleSat, reverse := v.other.reverse || (s.gu.get l).reverse } } := by
      simp [latched, hp, hw]
    refine ⟨_, rfl, rfl, ?_, fun m hm => ?_, rfl⟩
    · rw [Table.look_upd, if_pos rfl, hv, Option.map_some, hl]
    · rw [Table.look_upd, if_neg hm]
  case gone =>
    have hv : Table.upd s.vq.visits n (latched (s.gu.get l) (s.priced n)) = s.vq.visits := by
      rcases hv with hv | ⟨v, hv, hp⟩
      · exact upd_absent hv _
      · refine upd_same hv ?_
        rcases hp with hp | hp <;> simp [latched, Option.isSome_iff_ne_none, hp]
    rw [hv]
    rfl

/-! ## The keypad and the tag reader (R26, R27, R30) -/

theorem keyEvent_stalls {w : Work} {l : Lane} {k : Prog}
    (h : (w.s.gu.get l).state = .occupied ∨ ∃ x, (w.s.gu.get l).state = .refused x) :
    w.keyEvent l k = w.upd fun s => s.modLane l fun r =>
      { r with key := some k, stall := some (s.now + 1000 * s.dt.settings.laneStall) } := by
  rcases h with h | ⟨x, h⟩ <;> simp only [Work.keyEvent, h] <;>
    exact congrArg w.upd (funext fun s => startStall_modLane s l _)

theorem keyEvent_waiting {w : Work} {l : Lane} {k : Prog} {a : Nat} {m : Bool}
    (h : (w.s.gu.get l).state = .waiting a m) :
    w.keyEvent l k = w.upd fun s => s.modLane l fun r => { r with key := some k } := by
  simp only [Work.keyEvent, h]

theorem keyEvent_ignored {w : Work} {l : Lane} {k : Prog}
    (h : (w.s.gu.get l).state = .idle ∨ ∃ n c, (w.s.gu.get l).state = .admitted n c) : w.keyEvent l k = w := by
  rcases h with h | ⟨n, c, h⟩ <;> simp only [Work.keyEvent, h]

/-- What the tag reader makes of a tag's number, by the three rows of R26. -/
theorem addTag_eq {r : LaneRecord} {g : TagNo} {list : List TagNo} {full : Bool}
    (h : g ∈ r.tags ∧ list = r.tags ∧ full = r.tagOver ∨
      g ∉ r.tags ∧ r.tags.length < 4 ∧ list = r.tags ++ [g] ∧ full = r.tagOver ∨
      g ∉ r.tags ∧ 4 ≤ r.tags.length ∧ list = r.tags ∧ full = true) :
    r.addTag g = { r with tags := list, tagOver := full } := by
  rcases h with ⟨hg, rfl, rfl⟩ | ⟨hg, hl, rfl, rfl⟩ | ⟨hg, hl, rfl, rfl⟩
  · simp [LaneRecord.addTag, hg]
  · simp [LaneRecord.addTag, hg, hl]
  · simp [LaneRecord.addTag, hg, Nat.not_lt.mpr hl]

theorem exec_tagRead {l : Lane} {g : TagNo} (h : g ≠ 0) (s : State) :
    exec (.tagRead l g) s = Machine.run s (·.tagEvent l g) := if_neg h

theorem exec_tagRead_zero (l : Lane) (s : State) : exec (.tagRead l 0) s = .next s := rfl

theorem tagEvent_stalls {w : Work} {l : Lane} {g : TagNo}
    (h : (w.s.gu.get l).state = .occupied ∨ ∃ x, (w.s.gu.get l).state = .refused x) :
    w.tagEvent l g = w.upd fun s => s.modLane l fun r =>
      { r.addTag g with stall := some (s.now + 1000 * s.dt.settings.laneStall) } := by
  rcases h with h | ⟨x, h⟩ <;> simp only [Work.tagEvent, h] <;>
    exact congrArg w.upd (funext fun s => startStall_modLane s l _)

theorem tagEvent_waiting {w : Work} {l : Lane} {g : TagNo} (h : ∃ a m, (w.s.gu.get l).state = .waiting a m) :
    w.tagEvent l g = w.upd fun s => s.modLane l (·.addTag g) := by
  obtain ⟨a, m, h⟩ := h
  simp only [Work.tagEvent, h]

theorem tagEvent_admitted {w : Work} {l : Lane} {g : TagNo} (h : ∃ n c, (w.s.gu.get l).state = .admitted n c) :
    w.tagEvent l g = w := by
  obtain ⟨n, c, h⟩ := h
  simp only [Work.tagEvent, h]

theorem tagEvent_idle {w : Work} {l : Lane} {g : TagNo} (h : (w.s.gu.get l).state = .idle) :
    w.tagEvent l g = (w.upd fun s => s.modLane l (·.addTag g)).arrive l := by
  simp only [Work.tagEvent, h]

/-! ## The admission decision (R36) -/

@[simp] theorem refusal_modLane (s : State) (l : Lane) (f : LaneRecord → LaneRecord) (tags : List TagNo) (i : Identity)
    (o : Bool) : (s.modLane l f).refusal tags i o = s.refusal tags i o := rfl

@[simp] theorem identity_modLane (s : State) (l : Lane) (f : LaneRecord → LaneRecord) (tags : List TagNo) :
    (s.modLane l f).identity tags = s.identity tags := rfl

@[simp] theorem short_modLane (s : State) (l : Lane) (f : LaneRecord → LaneRecord) : (s.modLane l f).short = s.short := rfl

theorem decideLane_refused {w : Work} {l : Lane} {o : Bool} {reason : RefuseReason}
    (h : w.s.refusal (w.s.gu.get l).tags (w.s.identity (w.s.gu.get l).tags) o = some reason) :
    w.decideLane l o = (w.upd (·.refuse l reason o), .refused reason) := by
  simp only [Work.decideLane, h]

theorem decideLane_short {w : Work} {l : Lane} {o : Bool}
    (h : w.s.refusal (w.s.gu.get l).tags (w.s.identity (w.s.gu.get l).tags) o = none) (hs : w.s.short = true) :
    w.decideLane l o = (w.upd (·.holdWaiting l o), .waiting) := by
  simp only [Work.decideLane, h, if_pos hs]

theorem decideLane_admitted {w : Work} {l : Lane} {o : Bool}
    (h : w.s.refusal (w.s.gu.get l).tags (w.s.identity (w.s.gu.get l).tags) o = none) (hs : w.s.short = false) :
    w.decideLane l o = ((w.upd (·.admission l (w.s.identity (w.s.gu.get l).tags) o)).after [.matchPass],
      .admitted w.s.newNumber) := by
  simp only [Work.decideLane, h, if_neg (Bool.eq_false_iff.mp hs)]

/-- The notice of a refusal. -/
def refusedNotice (s : State) (l : Lane) (tags : List TagNo) (reason : RefuseReason) (o : Bool) : RefusedNotice :=
  ⟨l, reason, tags, (s.identity tags).account, (s.identity tags).cls, o⟩

theorem refuse_eq (s : State) (l : Lane) (reason : RefuseReason) (o : Bool) :
    s.refuse l reason o = (s.modLane l fun r => { r with
      state := .refused reason
      wait := none
      stall := some (s.now + 1000 * s.dt.settings.laneStall) }).notify
        (.refused (refusedNotice s l (s.gu.get l).tags reason o)) := by
  rw [State.refuse, startStall_modLane]
  rfl

theorem refuse_modLane (s : State) (l : Lane) (f : LaneRecord → LaneRecord) (reason : RefuseReason) (o : Bool) :
    (s.modLane l f).refuse l reason o = (s.modLane l fun r => { f r with
      state := .refused reason
      wait := none
      stall := some (s.now + 1000 * s.dt.settings.laneStall) }).notify
        (.refused (refusedNotice s l (f (s.gu.get l)).tags reason o)) := by
  rw [refuse_eq, modLane_modLane, State.modLane_gu, Pair.get_set_same]
  rfl

theorem holdWaiting_modLane {s : State} {l : Lane} {f : LaneRecord → LaneRecord} {o : Bool}
    (h : (f (s.gu.get l)).state = .occupied) :
    (s.modLane l f).holdWaiting l o = s.modLane l fun r => { f r with
      state := .waiting s.now o
      stall := none
      wait := some (s.now + 300000) } := by
  simp only [State.holdWaiting, State.modLane_gu, Pair.get_set_same, h, modLane_modLane]
  rfl

theorem exec_keypadPress (l : Lane) (k : Prog) (s : State) :
    exec (.keypadPress l k) s = Machine.run s (·.keyEvent l k) := rfl

theorem keysTaken (l : Lane) (k : Prog) (s : State) :
    ((s.gu.get l).state = .occupied ∨ (∃ x, (s.gu.get l).state = .refused x) →
      exec (.keypadPress l k) s = .next (s.modLane l fun r => { r with
        key := some k
        stall := some (s.now + 1000 * s.dt.settings.laneStall) })) ∧
    (∀ a m, (s.gu.get l).state = .waiting a m →
      exec (.keypadPress l k) s = .next (s.modLane l fun r => { r with key := some k })) ∧
    ((s.gu.get l).state = .idle ∨ (∃ n c, (s.gu.get l).state = .admitted n c) →
      exec (.keypadPress l k) s = .next s) := by
  rw [exec_keypadPress]
  refine ⟨fun h => run_of_done ?_, fun a m h => run_of_done ?_, fun h => run_of_done ?_⟩
  · rw [keyEvent_stalls h]; rfl
  · rw [keyEvent_waiting h]; rfl
  · rw [keyEvent_ignored h]

@[simp] theorem addTag_stopBeam (r : LaneRecord) (g : TagNo) : (r.addTag g).stopBeam = r.stopBeam := by
  unfold LaneRecord.addTag
  split
  · rfl
  · split <;> rfl

theorem tagEvent_idle_quiet {s : State} {l : Lane} {g : TagNo} (h : (s.gu.get l).state = .idle)
    (hb : (s.gu.get l).stopBeam = false) :
    (Work.mk s []).tagEvent l g = ⟨s.modLane l fun r => { r.addTag g with
      state := .occupied
      wait := none
      stall := some (s.now + 1000 * s.dt.settings.laneStall) }, []⟩ := by
  rw [tagEvent_idle h, arrive_quiet]
  · exact congrArg (Work.mk · []) (occupy_modLane _ _ _)
  · show ((s.modLane l (·.addTag g)).gu.get l).stopBeam = false
    rw [State.modLane_gu, Pair.get_set_same, addTag_stopBeam, hb]

theorem tagEvent_idle_beam {s : State} {l : Lane} {g : TagNo} (h : (s.gu.get l).state = .idle)
    (hb : (s.gu.get l).stopBeam = true) :
    (Work.mk s []).tagEvent l g = (Work.mk (s.modLane l fun r => { r.addTag g with
      state := .occupied
      wait := none
      stall := some (s.now + 1000 * s.dt.settings.laneStall) }) []).redecide l false := by
  rw [tagEvent_idle h, arrive_beam]
  · exact congrArg (fun u => (Work.mk u []).redecide l false) (occupy_modLane _ _ _)
  · show ((s.modLane l (·.addTag g)).gu.get l).stopBeam = true
    rw [State.modLane_gu, Pair.get_set_same, addTag_stopBeam, hb]

/-- The entry to OCCUPIED with a vehicle at the stop beam, and a decision that refuses or holds the lane. -/
theorem redecide_occupied_refused {s : State} {l : Lane} {f : LaneRecord → LaneRecord} {reason : RefuseReason}
    (h : s.refusal (f (s.gu.get l)).tags (s.identity (f (s.gu.get l)).tags) false = some reason) :
    (Work.mk (s.modLane l f) []).redecide l false = ⟨(s.modLane l fun r => { f r with
      state := .refused reason
      wait := none
      stall := some (s.now + 1000 * s.dt.settings.laneStall) }).notify
        (.refused (refusedNotice s l (f (s.gu.get l)).tags reason false)), []⟩ := by
  have hd : (Work.mk (s.modLane l f) []).s.refusal ((s.modLane l f).gu.get l).tags
      ((s.modLane l f).identity ((s.modLane l f).gu.get l).tags) false = some reason := by
    rw [State.modLane_gu, Pair.get_set_same]
    exact h
  rw [Work.redecide, decideLane_refused hd]
  exact congrArg (Work.mk · []) (refuse_modLane s l f reason false)

theorem redecide_occupied_short {s : State} {l : Lane} {f : LaneRecord → LaneRecord}
    (h : s.refusal (f (s.gu.get l)).tags (s.identity (f (s.gu.get l)).tags) false = none) (hs : s.short = true)
    (ho : (f (s.gu.get l)).state = .occupied) :
    (Work.mk (s.modLane l f) []).redecide l false = ⟨s.modLane l fun r => { f r with
      state := .waiting s.now false
      stall := none
      wait := some (s.now + 300000) }, []⟩ := by
  have hd : (Work.mk (s.modLane l f) []).s.refusal ((s.modLane l f).gu.get l).tags
      ((s.modLane l f).identity ((s.modLane l f).gu.get l).tags) false = none := by
    rw [State.modLane_gu, Pair.get_set_same]
    exact h
  rw [Work.redecide, decideLane_short hd hs]
  exact congrArg (Work.mk · []) (holdWaiting_modLane ho)

theorem keysAndTagsTaken : Clause.KeysAndTagsTaken := by
  intro l k g s
  obtain ⟨hkey, hkeyWaiting, hkeyIgnored⟩ := keysTaken l k s
  refine ⟨hkey, hkeyWaiting, hkeyIgnored, exec_tagRead_zero l s, fun h => ?admitted, fun list full hg hl => ?tag⟩
  case admitted =>
    by_cases hg : g = 0
    · rw [hg, exec_tagRead_zero]
    · rw [exec_tagRead hg]
      exact run_of_done (tagEvent_admitted h)
  case tag =>
    have hadd := addTag_eq hl
    have htags : ((s.gu.get l).addTag g).tags = list := congrArg LaneRecord.tags hadd
    rw [exec_tagRead hg]
    refine ⟨fun h => ?_, fun h => ?_, fun h hb => ?_, fun h hb => ⟨fun reason hr => ?_, fun hr hs => ?_⟩⟩
    · refine run_of_done ((tagEvent_stalls h).trans ?_)
      simp only [Work.upd, State.modLane, hadd]
    · refine run_of_done ((tagEvent_waiting h).trans ?_)
      simp only [Work.upd, State.modLane, hadd]
    · refine run_of_done ((tagEvent_idle_quiet h hb).trans ?_)
      simp only [State.modLane, hadd]
    · rw [← htags] at hr ⊢
      refine ⟨refusedNotice s l ((s.gu.get l).addTag g).tags reason false, rfl, rfl, rfl, rfl,
        run_of_done ((tagEvent_idle_beam h hb).trans ((redecide_occupied_refused hr).trans ?_))⟩
      simp only [State.modLane, hadd]
    · rw [← htags] at hr
      refine run_of_done ((tagEvent_idle_beam h hb).trans ((redecide_occupied_short hr hs rfl).trans ?_))
      simp only [State.modLane, hadd]

/-! ## The lane's timers (R30 to R32) -/

theorem exec_stallExpiry {l : Lane} {s : State} {due : Nat} (h : (s.gu.get l).stall = some due) :
    exec (.stallExpiry l) s = .next (((s.reach due).notify (.laneStall ⟨l, decide ((s.gu.get l).state ≠ .occupied),
      (s.gu.get l).count, (s.gu.get l).tags.length⟩)).clearLane l) := by
  show onExpiry s (s.gu.get l).stall _ = _
  rw [h]
  exact run_upd _ _

theorem exec_waitExpiry {l : Lane} {s : State} {due : Nat} (h : (s.gu.get l).wait = some due) :
    exec (.waitExpiry l) s = .next ((s.reach due).refuse l .full (s.gu.get l).state.override?) := by
  show onExpiry s (s.gu.get l).wait _ = _
  rw [h]
  exact run_upd _ _

theorem exec_entryBarrierPulseEnd {l : Lane} {s : State} {due : Nat} (h : (s.gu.get l).barrierPulse = some due) :
    exec (.entryBarrierPulseEnd l) s = .next ((s.reach due).modLane l fun r => { r with barrierPulse := none }) := by
  show onExpiry s (s.gu.get l).barrierPulse _ = _
  rw [h]
  exact run_upd _ _

theorem laneTimersExpire : Clause.LaneTimersExpire := by
  intro l due s
  refine ⟨fun h => exec_stallExpiry h, fun h => ?_, fun h => exec_entryBarrierPulseEnd h, fun h => ?_, fun h => ?_,
    fun h => ?_⟩
  · rw [exec_waitExpiry h, refuse_eq]
    exact ⟨refusedNotice s l (s.gu.get l).tags .full (s.gu.get l).state.override?, rfl, rfl, rfl⟩
  · show onExpiry s (s.gu.get l).stall _ = _
    rw [h, onExpiry_none]
  · show onExpiry s (s.gu.get l).wait _ = _
    rw [h, onExpiry_none]
  · show onExpiry s (s.gu.get l).barrierPulse _ = _
    rw [h, onExpiry_none]

/-- Settles O39. -/
theorem laneInputsAndTimers : Obligations.LaneInputsAndTimers := ⟨keysAndTagsTaken, laneTimersExpire⟩

/-! ## The admission (R40) -/

/-- The visit that an admission makes of the lane's record. -/
def admittedVisit (s : State) (l : Lane) (r : LaneRecord) (o : Bool) : Visit :=
  s.freshVisit (.lane l) (if o then r.tags.filter fun g => !s.tagHeld g else r.tags) (s.identity r.tags).account
    (s.identity r.tags).cls (s.chooseProgramme (s.identity r.tags).account r.key)
    (s.permitFor (s.identity r.tags).account) .queued none
    { noOtherFlags with tagOver := r.tagOver, mixed := (s.identity r.tags).mixed }

def admittedNotice (s : State) (l : Lane) (r : LaneRecord) (o : Bool) : AdmittedNotice :=
  ⟨l, s.newNumber, (s.identity r.tags).account, (s.identity r.tags).cls,
    s.chooseProgramme (s.identity r.tags).account r.key, s.permitFor (s.identity r.tags).account,
    (if o then r.tags.filter fun g => !s.tagHeld g else r.tags).length, r.tagOver, (s.identity r.tags).mixed, o⟩

/-- The lane's record when its vehicle has been admitted at a time. -/
def admittedLane (r : LaneRecord) (n now : Nat) : LaneRecord :=
  { r with state := .admitted n false, stall := none, wait := none, barrierPulse := some (now + 1000) }

/-- The state that an admission leaves, on the record that the decision saw. -/
def admittedState (s : State) (l : Lane) (r : LaneRecord) (o : Bool) : State :=
  { s with
    gu := s.gu.set l (admittedLane r s.newNumber s.now)
    vq := ⟨Table.put s.vq.visits s.newNumber (admittedVisit s l r o), s.vq.queue ++ [s.newNumber], s.vq.called,
      s.newNumber⟩
    cu := { s.cu with reservations := s.cu.reservations + 1 }
    lp := (s.notify (.admitted (admittedNotice s l r o))).lp }

theorem admission_eq (s : State) (l : Lane) (o : Bool) :
    s.admission l (s.identity (s.gu.get l).tags) o = admittedState s l (s.gu.get l) o := rfl

theorem admission_modLane (s : State) (l : Lane) (f : LaneRecord → LaneRecord) (o : Bool) :
    (s.modLane l f).admission l (s.identity (f (s.gu.get l)).tags) o = admittedState s l (f (s.gu.get l)) o := by
  have h := admission_eq (s.modLane l f) l o
  rw [State.modLane_gu, Pair.get_set_same, identity_modLane] at h
  rw [h]
  simp only [admittedState, State.modLane, pair_set_set]
  rfl

theorem redecide_occupied_admitted {s : State} {l : Lane} {f : LaneRecord → LaneRecord}
    (h : s.refusal (f (s.gu.get l)).tags (s.identity (f (s.gu.get l)).tags) false = none) (hs : s.short = false) :
    (Work.mk (s.modLane l f) []).redecide l false = ⟨admittedState s l (f (s.gu.get l)) false, [.matchPass]⟩ := by
  have hd : (Work.mk (s.modLane l f) []).s.refusal ((s.modLane l f).gu.get l).tags
      ((s.modLane l f).identity ((s.modLane l f).gu.get l).tags) false = none := by
    rw [State.modLane_gu, Pair.get_set_same]
    exact h
  rw [Work.redecide, decideLane_admitted hd hs]
  refine congrArg (Work.mk · [.matchPass]) ?_
  dsimp only
  rw [State.modLane_gu, Pair.get_set_same, identity_modLane]
  exact admission_modLane s l f false

/-! ## The stop beam (R29) -/

theorem exec_stopBeamChange {l : Lane} {s : State} (h : (s.gu.get l).stopBeam = false)
    (ho : (s.gu.get l).state = .occupied) :
    exec (.stopBeamChange l true) s =
      Machine.run (s.modLane l fun r => { r with stopBeam := true }) (·.redecide l false) := by
  have hst : ((s.modLane l fun r => { r with stopBeam := true }).gu.get l).state = .occupied := by
    rw [State.modLane_gu, Pair.get_set_same]
    exact ho
  have hev : (Work.mk (s.modLane l fun r => { r with stopBeam := true }) []).stopBeamEvent l true =
      (Work.mk (s.modLane l fun r => { r with stopBeam := true }) []).redecide l false := by
    simp only [Work.stopBeamEvent, hst, if_true]
  have hne : ¬ (s.gu.get l).stopBeam = true := by simp [h]
  refine (if_neg hne).trans ?_
  rw [Machine.run, Machine.run, ← hev]
  rfl

theorem stopBeamAtOccupied : Clause.StopBeamAtOccupied := by
  intro l s
  refine ⟨fun x h => if_pos h, fun h ho => ⟨fun reason hr => ?refused, fun hr => ⟨fun hs => ?waiting, fun hs he => ?admitted⟩⟩⟩
  all_goals rw [exec_stopBeamChange h ho]
  case refused =>
    exact ⟨refusedNotice s l (s.gu.get l).tags reason false, rfl, rfl, rfl,
      run_of_done (redecide_occupied_refused (f := fun r => { r with stopBeam := true }) hr)⟩
  case waiting =>
    exact run_of_done (redecide_occupied_short (f := fun r => { r with stopBeam := true }) hr hs ho)
  case admitted =>
    have hcalm : (Work.mk (admittedState s l { s.gu.get l with stopBeam := true } false) []).handle .matchPass =
        ⟨admittedState s l { s.gu.get l with stopBeam := true } false, []⟩ :=
      handle_matchPass_calm (qualifies_of_noEmptyBay he)
    exact ⟨admittedState s l { s.gu.get l with stopBeam := true } false,
      admittedVisit s l { s.gu.get l with stopBeam := true } false,
      admittedNotice s l { s.gu.get l with stopBeam := true } false,
      run_next (redecide_occupied_admitted (f := fun r => { r with stopBeam := true }) hr hs)
        ((settle_done hcalm).trans (Work.settle_done _)),
      rfl, rfl, rfl, rfl, rfl, rfl, rfl, rfl, rfl, rfl, rfl, rfl⟩

/-! ## The call that follows an admission (R51) -/

theorem upd_put {α : Type} (t : Table α) (k : Nat) (v : α) (f : α → α) :
    Table.upd (Table.put t k v) k f = Table.put t k (f v) := by
  induction t with
  | nil => simp [Table.put, Table.upd]
  | cons e rest ih =>
    obtain ⟨j, u⟩ := e
    by_cases hlt : k < j
    · simp [Table.put, Table.upd, hlt]
    · by_cases heq : k = j
      · simp [Table.put, Table.upd, heq]
      · simp [Table.put, Table.upd, hlt, heq, Ne.symm heq, ih]

theorem noWaitingLane_iff {s : State} : NoWaitingLane s ↔ ∀ l a m, (s.gu.get l).state ≠ .waiting a m := by
  constructor
  · intro h l a m hw
    unfold NoWaitingLane State.waitingLanes at h
    cases l
    · rw [show s.gu.p1.state = .waiting a m from hw] at h
      cases hp : s.gu.p2.state <;> simp only [hp] at h <;> first | cases h | (split at h <;> cases h)
    · rw [show s.gu.p2.state = .waiting a m from hw] at h
      cases hp : s.gu.p1.state <;> simp only [hp] at h <;> first | cases h | (split at h <;> cases h)
  · intro h
    unfold NoWaitingLane State.waitingLanes
    split
    · exact absurd ‹_› (h .lane1 _ _)
    · exact absurd ‹_› (h .lane1 _ _)
    · exact absurd ‹_› (h .lane2 _ _)
    · rfl

/-- A walk over larger bays leaves the place to the smaller one behind them. -/
theorem foldl_smaller_larger {s : State} {b : Bay} {l : List Bay} {best : Option Bay}
    (hl : ∀ c ∈ l, s.settings.maxSegments.get b < s.settings.maxSegments.get c)
    (hbest : ∀ c, best = some c → s.settings.maxSegments.get b < s.settings.maxSegments.get c) :
    s.smaller (l.foldl s.smaller best) b = some b := by
  induction l generalizing best with
  | nil =>
    cases best with
    | none => rfl
    | some c => exact if_pos (hbest c rfl)
  | cons c l ih =>
    refine ih (fun d hd => hl d (List.mem_cons_of_mem _ hd)) ?_
    intro d hd
    unfold State.smaller at hd
    split at hd
    · cases hd
      exact hl _ List.mem_cons_self
    · split at hd
      · cases hd
        exact hl _ List.mem_cons_self
      · cases hd
        exact hbest _ rfl

/-- A walk over bays that are not smaller keeps the bay found. -/
theorem foldl_smaller_kept {s : State} {b : Bay} {l : List Bay}
    (hl : ∀ c ∈ l, s.settings.maxSegments.get b ≤ s.settings.maxSegments.get c) : l.foldl s.smaller (some b) = some b := by
  induction l with
  | nil => rfl
  | cons c l ih =>
    have h : s.smaller (some b) c = some b := if_neg (Nat.not_lt.mpr (hl c List.mem_cons_self))
    rw [List.foldl_cons, h]
    exact ih fun d hd => hl d (List.mem_cons_of_mem _ hd)

/-- The smallest bay that qualifies and takes the length, the first where two are equal. -/
theorem bestBay_eq {s : State} {n : Nat} {b : Bay} {before after : List Bay} (hall : Bay.all = before ++ b :: after)
    (hb : s.qualifies b = true ∧ n ≤ s.settings.maxSegments.get b)
    (hbefore : ∀ c ∈ before, s.qualifies c = true → n ≤ s.settings.maxSegments.get c →
      s.settings.maxSegments.get b < s.settings.maxSegments.get c)
    (hafter : ∀ c ∈ after, s.qualifies c = true → n ≤ s.settings.maxSegments.get c →
      s.settings.maxSegments.get b ≤ s.settings.maxSegments.get c) : s.bestBay n = some b := by
  have hkeep : (s.qualifies b && decide (n ≤ s.settings.maxSegments.get b)) = true := by
    rw [hb.1, Bool.true_and]
    exact decide_eq_true hb.2
  rw [State.bestBay, hall, List.filter_append, List.filter_cons, if_pos hkeep, List.foldl_append, List.foldl_cons,
    foldl_smaller_larger, foldl_smaller_kept]
  · intro c hc
    obtain ⟨hc, hq⟩ := List.mem_filter.mp hc
    simp only [Bool.and_eq_true, decide_eq_true_eq] at hq
    exact hafter c hc hq.1 hq.2
  · intro c hc
    obtain ⟨hc, hq⟩ := List.mem_filter.mp hc
    simp only [Bool.and_eq_true, decide_eq_true_eq] at hq
    exact hbefore c hc hq.1 hq.2
  · intro c hc
    cases hc

/-- The record of a bay that a visit is called to (R70). -/
def calledBay (r : BayRecord) (n due : Nat) : BayRecord :=
  { r.stopTimers with state := .called, called := some n, lamp := true, callTimer := some due }

/-- The one queued visit is called, where a bay qualifies that takes its class. -/
theorem matchPass_calls {s : State} {n : Nat} {v : Visit} {b : Bay} (hq : s.vq.queue = [n]) (hv : s.visit? n = some v)
    (hb : s.bestBay (s.classLength v.cls) = some b) :
    (Work.mk s []).handle .matchPass = ⟨s.call n v b, [.capacity]⟩ := by
  have hc : s.callIfFits n = s.call n v b := by simp only [State.callIfFits, hv, hb]
  have hlen : ¬ (s.call n v b).vq.called.length = s.vq.called.length := by
    simp [State.call, State.modCalled, State.modQueue, State.modVisit, State.modVisits]
  show (Work.mk s []).matchPass = _
  simp only [Work.matchPass, hq, List.foldl_cons, List.foldl_nil, hc]
  rw [if_neg hlen]
  rfl

theorem admittedVisitCalled : Clause.AdmittedVisitCalled := by
  intro l b before after s h ho hr hs hw hq
  simp only
  rintro ⟨hall, hb, hbefore, hafter⟩
  rw [exec_stopBeamChange h ho]
  have hmode := mode_of_refusal_none hr
  have hred := redecide_occupied_admitted (f := fun r => { r with stopBeam := true }) hr hs
  set r : LaneRecord := { s.gu.get l with stopBeam := true } with hrec
  set u := admittedState s l r false with hu
  have hqualifies : ∀ c, u.qualifies c = true ↔ (s.bc.get c).state = .empty ∧ (s.bc.get c).service = .inService := by
    intro c
    show s.qualifies c = true ↔ _
    simp [State.qualifies, State.mode, hmode]
  have hbest : u.bestBay (u.classLength (admittedVisit s l r false).cls) = some b := by
    refine bestBay_eq hall ⟨(hqualifies b).mpr ⟨hb.1, hb.2.1⟩, hb.2.2⟩ ?_ ?_
    · intro c hc hcq hcl
      obtain ⟨he, hi⟩ := (hqualifies c).mp hcq
      exact hbefore c hc ⟨he, hi, hcl⟩
    · intro c hc hcq hcl
      obtain ⟨he, hi⟩ := (hqualifies c).mp hcq
      exact hafter c hc ⟨he, hi, hcl⟩
  have hvisit : u.visit? s.newNumber = some (admittedVisit s l r false) := Table.look_put_same _ _ _
  have hqueue : u.vq.queue = [s.newNumber] := by
    show s.vq.queue ++ [s.newNumber] = _
    rw [hq]
    rfl
  have hcall := matchPass_calls hqueue hvisit hbest
  have hwaiting : NoWaitingLane (u.call s.newNumber (admittedVisit s l r false) b) := by
    rw [noWaitingLane_iff] at hw ⊢
    intro l' a m
    show ((s.gu.set l (admittedLane r s.newNumber s.now)).get l').state ≠ _
    by_cases hl : l' = l
    · subst hl
      rw [Pair.get_set_same]
      exact LaneState.noConfusion
    · rw [Pair.get_set_ne _ _ _ _ hl]
      exact hw l' a m
  have hsettle : (Work.mk u [.matchPass]).settle = u.call s.newNumber (admittedVisit s l r false) b := by
    rw [settle_cons hcall, List.append_nil, settle_done (Work.handle_capacity_calm _ hwaiting), Work.settle_done]
  refine ⟨_, { admittedVisit s l r false with state := .called, bay := some b }, admittedNotice s l r false,
    ⟨s.newNumber, b, (admittedVisit s l r false).cls, 0⟩, run_next hred hsettle, rfl, rfl, ?_, rfl, rfl, rfl, rfl, rfl,
    rfl, rfl, rfl, rfl, rfl, rfl, rfl⟩
  have hvisits : (u.call s.newNumber (admittedVisit s l r false) b).vq.visits =
      Table.put s.vq.visits s.newNumber { admittedVisit s l r false with state := .called, bay := some b } :=
    upd_put _ _ _ _
  have hempty : (u.call s.newNumber (admittedVisit s l r false) b).vq.queue = [] := by
    show without s.newNumber u.vq.queue = []
    simp [hqueue, without]
  calc (u.call s.newNumber (admittedVisit s l r false) b).vq
      = ⟨(u.call s.newNumber (admittedVisit s l r false) b).vq.visits,
          (u.call s.newNumber (admittedVisit s l r false) b).vq.queue, s.vq.called ++ [s.newNumber], s.newNumber⟩ := rfl
    _ = _ := by rw [hvisits, hempty]

/-- Settles O37. -/
theorem stopBeamDecides : Obligations.StopBeamDecides := ⟨stopBeamAtOccupied, admittedVisitCalled⟩

end Sys2Proof.Proofs.Lanes
end

section
/-!
The bays: the presence sensors, the timers, the end of a call, the settle, and the wash that is cut short (R54, R65 to R82,
R89 to R101).
-/

namespace Sys2Proof.Proofs.Bays

open Sys2Proof Sys2Proof.Machine Sys2Proof.Safety Sys2Proof.Proofs.Running

set_option Elab.async false

/-! ## The presence sensors (R65 to R76) -/

/-- A new level of a presence sensor is kept, and is an event of the bay. -/
theorem exec_presenceSensorChange (p : Presence) (x : Bool) {b : Bay} {s : State} (h : (s.bc.get b).sensor p = !x) :
    exec (.presenceSensorChange b p x) s = Machine.run (s.modBay b (·.setSensor p x)) (·.sensorEvent b) := by
  have hne : (s.bc.get b).sensor p ≠ x := by
    rw [h]
    cases x <;> decide
  exact if_neg hne

theorem bay_modBay (s : State) (b : Bay) (f : BayRecord → BayRecord) : (s.modBay b f).bc.get b = f (s.bc.get b) :=
  Six.get_set_same _ _ _

theorem enterSeating_modBay (s : State) (b : Bay) (f : BayRecord → BayRecord) :
    (s.modBay b f).enterSeating b = s.modBay b fun r => { f r with
      state := .seating
      sensorTimer := none
      settleTimer := some (s.now + 1000 * s.dt.settings.seatingSettle) } := modBay_modBay _ _ _ _

/-- Both sensors active, in CALLED and in EMPTY (R69, R72). -/
theorem sensorEvent_seated {s : State} {b : Bay} {f : BayRecord → BayRecord}
    (h : (f (s.bc.get b)).state = .called ∨ (f (s.bc.get b)).state = .empty) (hs : (f (s.bc.get b)).seated = true) :
    (Work.mk (s.modBay b f) []).sensorEvent b = ⟨s.modBay b fun r => { f r with
      state := .seating
      sensorTimer := none
      settleTimer := some (s.now + 1000 * s.dt.settings.seatingSettle) }, []⟩ := by
  rw [← enterSeating_modBay]
  rcases h with h | h
  · simp only [Work.sensorEvent, bay_modBay, h, hs, if_true]
    rfl
  · simp only [Work.sensorEvent, bay_modBay, h, Work.upd, State.readEmpty, hs, if_true]

/-- One sensor active in EMPTY (R73). -/
theorem sensorEvent_empty_one {s : State} {b : Bay} {f : BayRecord → BayRecord} (h : (f (s.bc.get b)).state = .empty)
    (hs : (f (s.bc.get b)).seated = false) (ho : (f (s.bc.get b)).oneActive = true) :
    (Work.mk (s.modBay b f) []).sensorEvent b = ⟨s.modBay b fun r => { f r with
      sensorTimer := (f r).sensorTimer.or (some (s.now + 1000 * s.dt.settings.callTimeout)) }, []⟩ := by
  simp only [Work.sensorEvent, bay_modBay, h, Work.upd, State.readEmpty, hs, ho, if_true, Bool.false_eq_true, if_false,
    modBay_modBay]
  rfl

theorem sensorEvent_empty_clear {s : State} {b : Bay} {f : BayRecord → BayRecord} (h : (f (s.bc.get b)).state = .empty)
    (hs : (f (s.bc.get b)).seated = false) (ho : (f (s.bc.get b)).oneActive = false) :
    (Work.mk (s.modBay b f) []).sensorEvent b = ⟨s.modBay b fun r => { f r with sensorTimer := none }, []⟩ := by
  simp only [Work.sensorEvent, bay_modBay, h, Work.upd, State.readEmpty, hs, ho, Bool.false_eq_true, if_false,
    modBay_modBay]
  rfl

/-- The presence-loss filter of a WASHING bay (R76). -/
theorem sensorEvent_washing_seated {s : State} {b : Bay} {f : BayRecord → BayRecord}
    (h : (f (s.bc.get b)).state = .washing) (hs : (f (s.bc.get b)).seated = true) :
    (Work.mk (s.modBay b f) []).sensorEvent b = ⟨s.modBay b fun r => { f r with lossFilter := none }, []⟩ := by
  simp only [Work.sensorEvent, bay_modBay, h, hs, if_true, Work.upd, modBay_modBay]
  rfl

theorem sensorEvent_washing_lost {s : State} {b : Bay} {f : BayRecord → BayRecord}
    (h : (f (s.bc.get b)).state = .washing) (hs : (f (s.bc.get b)).seated = false) :
    (Work.mk (s.modBay b f) []).sensorEvent b =
      ⟨s.modBay b fun r => { f r with lossFilter := some ((f r).lossFilter.getD (s.now + 2000)) }, []⟩ := by
  have hor : ∀ o : Option Nat, o.or (some (s.now + 2000)) = some (o.getD (s.now + 2000)) := by
    intro o
    cases o <;> rfl
  simp only [Work.sensorEvent, bay_modBay, h, hs, Bool.false_eq_true, if_false, Work.upd, modBay_modBay, ← hor]
  rfl

theorem presenceTaken : Clause.PresenceTaken := by
  intro b s
  refine ⟨⟨if_pos rfl, if_pos rfl⟩, fun h => ⟨fun hw hr => ?_, fun hw hr => ?_⟩,
    fun h => ⟨fun hw hr ht => ⟨?_, ?_⟩, fun hw hr => ?_, fun hw hr => ?_⟩,
    fun h => ⟨fun hr => ?_, fun hw => ?_, fun hw hr => ?_, fun hw hr => ?_⟩⟩
  · rw [exec_presenceSensorChange .rearBeam true hr]
    exact run_of_done (sensorEvent_seated h (by simp [BayRecord.seated, BayRecord.setSensor, hw]))
  · rw [exec_presenceSensorChange .wheelStop true hw]
    exact run_of_done (sensorEvent_seated h (by simp [BayRecord.seated, BayRecord.setSensor, hr]))
  · rw [exec_presenceSensorChange .wheelStop true hw]
    refine run_of_done ((sensorEvent_empty_one h (by simp [BayRecord.seated, BayRecord.setSensor, hr])
      (by simp [BayRecord.oneActive, BayRecord.setSensor, hr])).trans ?_)
    simp [State.modBay, BayRecord.setSensor, ht]
  · rw [exec_presenceSensorChange .rearBeam true hr]
    refine run_of_done ((sensorEvent_empty_one h (by simp [BayRecord.seated, BayRecord.setSensor, hw])
      (by simp [BayRecord.oneActive, BayRecord.setSensor, hw])).trans ?_)
    simp [State.modBay, BayRecord.setSensor, ht]
  · rw [exec_presenceSensorChange .wheelStop false hw]
    exact run_of_done (sensorEvent_empty_clear h (by simp [BayRecord.seated, BayRecord.setSensor])
      (by simp [BayRecord.oneActive, BayRecord.setSensor, hr]))
  · rw [exec_presenceSensorChange .rearBeam false hr]
    exact run_of_done (sensorEvent_empty_clear h (by simp [BayRecord.seated, BayRecord.setSensor])
      (by simp [BayRecord.oneActive, BayRecord.setSensor, hw]))
  · rw [exec_presenceSensorChange .rearBeam false hr]
    exact run_of_done (sensorEvent_washing_lost h (by simp [BayRecord.seated, BayRecord.setSensor]))
  · rw [exec_presenceSensorChange .wheelStop false hw]
    exact run_of_done (sensorEvent_washing_lost h (by simp [BayRecord.seated, BayRecord.setSensor]))
  · rw [exec_presenceSensorChange .rearBeam true hr]
    exact run_of_done (sensorEvent_washing_seated h (by simp [BayRecord.seated, BayRecord.setSensor, hw]))
  · rw [exec_presenceSensorChange .wheelStop true hw]
    exact run_of_done (sensorEvent_washing_seated h (by simp [BayRecord.seated, BayRecord.setSensor, hr]))

/-! ## The bay's other timers (R73, R81) -/

theorem exec_exitPulseExpiry {b : Bay} {s : State} {due : Nat} (h : (s.bc.get b).exitPulse = some due) :
    exec (.exitPulseExpiry b) s = .next ((s.reach due).modBay b fun r => { r with exitPulse := none }) := by
  show onExpiry s (s.bc.get b).exitPulse _ = _
  rw [h]
  exact run_upd _ _

theorem exec_exitStallExpiry {b : Bay} {s : State} {due : Nat} (h : (s.bc.get b).exitStall = some due) :
    exec (.exitStallExpiry b) s = .next (((s.reach due).modBay b fun r =>
      { r with exitStall := none, lastFault := .exitStall }).notify (.exitStall b (s.bc.get b).held)) := by
  show onExpiry s (s.bc.get b).exitStall _ = _
  rw [h]
  exact run_upd _ _

theorem exec_sensorTimerExpiry {b : Bay} {s : State} {due : Nat} (h : (s.bc.get b).sensorTimer = some due) :
    exec (.sensorTimerExpiry b) s = .next (((s.reach due).modBay b fun r =>
      { r with sensorTimer := none, lastFault := .sensor }).bayNotice b .empty none) := by
  show onExpiry s (s.bc.get b).sensorTimer _ = _
  rw [h]
  exact run_upd _ _

/-- The notice that tells the state of a bay. -/
def bayStateNotice (r : BayRecord) (b : Bay) (left : BayState) (released : Option Nat) : BayStateNotice :=
  ⟨b, r.state, left, r.held, released, r.service, r.lineFilled, r.lastFault⟩

theorem bayNotice_modBay (s : State) (b : Bay) (f : BayRecord → BayRecord) (left : BayState) (released : Option Nat) :
    (s.modBay b f).bayNotice b left released =
      (s.modBay b f).notify (.bayState (bayStateNotice (f (s.bc.get b)) b left released)) := by
  simp only [State.bayNotice, bay_modBay]
  rfl

theorem bayTimersExpire : Clause.BayTimersExpire := by
  intro b due s
  refine ⟨fun h => exec_exitPulseExpiry h, fun h => exec_exitStallExpiry h, fun h => ?_, fun h => ?_, fun h => ?_,
    fun h => ?_⟩
  · rw [exec_sensorTimerExpiry h, bayNotice_modBay]
    exact ⟨bayStateNotice { s.bc.get b with sensorTimer := none, lastFault := .sensor } b .empty none, rfl, rfl, rfl, rfl⟩
  · show onExpiry s (s.bc.get b).exitPulse _ = _
    rw [h, onExpiry_none]
  · show onExpiry s (s.bc.get b).exitStall _ = _
    rw [h, onExpiry_none]
  · show onExpiry s (s.bc.get b).sensorTimer _ = _
    rw [h, onExpiry_none]

/-- Settles O43. -/
theorem baySensorsAndTimers : Obligations.BaySensorsAndTimers := ⟨presenceTaken, bayTimersExpire⟩

end Sys2Proof.Proofs.Bays
end

section
/-!
The phases: their start, the meter pulses, the end of a phase with its water, the end of a wash with the hand-over of its
visit, and the nozzle generator (R74 to R78, R89 to R104, R162).
-/

namespace Sys2Proof.Proofs.Phases

open Sys2Proof Sys2Proof.Machine Sys2Proof.Safety Sys2Proof.Proofs.Running Sys2Proof.Proofs.Lanes Sys2Proof.Proofs.Bays

set_option Elab.async false

/-! ## Tables -/

theorem upd_upd {α : Type} (t : Table α) (k : Nat) (f g : α → α) :
    Table.upd (Table.upd t k f) k g = Table.upd t k (g ∘ f) := by
  induction t with
  | nil => rfl
  | cons e rest ih =>
    obtain ⟨j, u⟩ := e
    by_cases hj : j = k
    · simp [Table.upd, hj]
    · simp [Table.upd, hj, ih]

theorem look_upd_same {α : Type} {t : Table α} {k : Nat} {v : α} (h : Table.look t k = some v) (f : α → α) :
    Table.look (Table.upd t k f) k = some (f v) := by
  rw [Table.look_upd, if_pos rfl, h, Option.map_some]

/-! ## The start of a phase (R89) -/

/-- What an entry to RUNNING leaves of a phase. -/
theorem run_fields (p : PhaseRun) (now : Nat) :
    (p.run now).visit = p.visit ∧ (p.run now).number = p.number ∧ (p.run now).record = p.record ∧
      (p.run now).stage = .running ∧ (p.run now).fresh = p.fresh ∧ (p.run now).recycled = p.recycled ∧
      (p.run now).freshOpen = p.freshOpen ∧ (p.run now).recycledOpen = p.recycledOpen := by
  unfold PhaseRun.run PhaseRun.startNozzle
  split
  · split <;> exact ⟨rfl, rfl, rfl, rfl, rfl, rfl, rfl, rfl⟩
  · exact ⟨rfl, rfl, rfl, rfl, rfl, rfl, rfl, rfl⟩

/-- The first phase of a wash in OPEN or HOLD with the lines filled, where it is a DRY one. -/
theorem startPhase_first_dry {s : State} {b : Bay} {n : Nat} {v : Visit} {pr : Programme} {r : PhaseRecord}
    {rest : List PhaseRecord} (hstate : (s.bc.get b).state = .washing) (hheld : (s.bc.get b).held = some n)
    (hplan : s.plan? b = none) (hmode : washes s.lm.mode = true) (hfilled : (s.bc.get b).lineFilled = true)
    (hv : s.visit? n = some v) (hpr : s.dt.programmes.get v.programme = some pr) (hph : pr.phases = r :: rest)
    (hk : r.kind = .dry) :
    (Work.mk s []).handle (.startPhase b 1) = ⟨s.modRunner b fun _ =>
      ⟨some ((PhaseRun.begin n 1 (s.classLength v.cls) s.now r).run s.now), 0⟩, []⟩ := by
  have hgo : (washes s.mode && (s.bc.get b).lineFilled) = true := by rw [State.mode, hmode, hfilled, Bool.true_and]
  have hrec : ((s.dt.programmes.get v.programme).bind fun p => p.phases[1 - 1]?) = some r := by simp [hpr, hph]
  show (Work.mk s []).startPhase b 1 = _
  simp only [Work.startPhase, hstate, hheld, hplan, hgo, Bool.not_true, Bool.false_eq_true, and_false, if_false, hv,
    hrec, Work.beginPhase, hk]
  rfl

/-! ## The end of a phase (R98, R162) -/

/-- An overflow writes the pit, the litres discharged with their day total, and the notices (R163). -/
theorem overflow_eq (s : State) (c : OverflowCause) : ∃ (lp : Link) (totals : DayCounts),
    s.overflow c = { s with
      lp := lp
      lm := { s.lm with
        vSet := min s.lm.vSet s.dt.settings.pitCapacity
        discharged := s.lm.discharged + (s.lm.vSet - s.dt.settings.pitCapacity).toNat }
      cu := { s.cu with totals := totals } } ∧
    (s.lm.vSet ≤ s.dt.settings.pitCapacity → lp = s.lp ∧ totals = s.cu.totals) ∧
    ((s.dt.settings.pitCapacity : Int) < s.lm.vSet →
      totals = s.cu.totals.addDischarged (s.lm.vSet - s.dt.settings.pitCapacity).toNat) := by
  by_cases h : s.lm.vSet ≤ (s.settings.pitCapacity : Int)
  · have hs : s.overflow c = s := if_pos h
    have hmin : min s.lm.vSet (s.dt.settings.pitCapacity : Int) = s.lm.vSet := min_eq_left h
    have hzero : (s.lm.vSet - (s.dt.settings.pitCapacity : Int)).toNat = 0 :=
      Int.toNat_eq_zero.mpr (Int.sub_nonpos_of_le h)
    refine ⟨s.lp, s.cu.totals, ?_, fun _ => ⟨rfl, rfl⟩, fun h' => absurd h (not_le.mpr h')⟩
    rw [hs, hmin, hzero]
    rfl
  · have hmin : min s.lm.vSet (s.dt.settings.pitCapacity : Int) = (s.dt.settings.pitCapacity : Int) :=
      min_eq_right (le_of_not_ge h)
    rw [hmin]
    exact ⟨_, _, if_neg h, fun h' => absurd h' h, fun _ => rfl⟩

/-- The state that the end of a phase without a supply channel leaves, before what follows it. -/
def phaseClosed (s : State) (b : Bay) (p : PhaseRun) (cause : PhaseCause) : State :=
  ((s.setRequest b false).dropDemand b).closePhase b p cause

theorem endPhase_eq {s : State} {b : Bay} {p : PhaseRun} (hp : s.plan? b = some p) (hs : s.serving b = none)
    (ts : List Task) (cause : PhaseCause) (abort : Bool) :
    (Work.mk s ts).endPhase b cause abort =
      ⟨phaseClosed s b p cause, ts ++ [.follow b p.visit p.number cause abort]⟩ := by
  have hs' : (s.setRequest b false).serving b = none := hs
  simp only [Work.endPhase, hp, Work.leaveSupply, Work.upd, hs']
  rfl

/-- The result of a phase that ends now. -/
def closingResult (s : State) (p : PhaseRun) (cause : PhaseCause) : PhaseResult :=
  p.result s.now cause (s.carryOff (p.fresh + p.recycled))

/-- What a phase end writes; the notices, the day totals and the reclaim decision are those of the overflow. -/
theorem phaseClosed_eq {s : State} {b : Bay} {p : PhaseRun} {cause : PhaseCause} {carry : Nat} {v : Int}
    (hc : carry = s.carryOff (p.fresh + p.recycled)) (hv : v = s.lm.vSet + (p.fresh + p.recycled - carry : Nat)) :
    ∃ (lp : Link) (totals : DayCounts) (reclaim : Bool),
    phaseClosed s b p cause = { s with
      lp := lp
      vq := { s.vq with visits := Table.upd s.vq.visits p.visit (·.addResult (closingResult s p cause)) }
      pr := s.pr.set b { s.pr.get b with plan := none }
      qs := { s.qs with demands := s.qs.demands.set b none }
      bu := ⟨min 4294967295 (s.bu.usedToday + p.fresh), s.bu.reservations.set b none⟩
      sa := { s.sa with requests := s.sa.requests.set b false }
      lm := { s.lm with
        carried := s.lm.carried + carry
        vSet := min v s.dt.settings.pitCapacity
        discharged := s.lm.discharged + (v - s.dt.settings.pitCapacity).toNat
        reclaim := reclaim }
      cu := { s.cu with totals := totals } } ∧
    (v ≤ s.dt.settings.pitCapacity → lp = s.lp ∧ totals = s.cu.totals) ∧
    ((s.dt.settings.pitCapacity : Int) < v →
      totals = s.cu.totals.addDischarged (v - s.dt.settings.pitCapacity).toNat) := by
  subst hc hv
  unfold phaseClosed State.closePhase State.phaseReturn
  dsimp only
  generalize hbooked : State.modLoop _ _ = u
  obtain ⟨lp, totals, hover, hlow, hhigh⟩ := overflow_eq u (.phase b)
  rw [hover]
  subst hbooked
  refine ⟨lp, totals, ?_, ?_, hlow, hhigh⟩
  rotate_left
  · simp only [State.modLoop, State.setRequest, State.modArbiter, State.dropDemand, State.modSampler, State.modRunner,
      State.decideReclaim, State.settleFresh, State.modVisit, State.modVisits, satAdd, max32]
    rfl

/-! ## The end of a wash and the hand-over of its visit (R59, R75 to R78, R180) -/

/-- The visit as it is handed over: FINISHED, its axles assumed where none were counted. -/
def handed (v : Visit) : Visit :=
  if v.axles.isNone then { v with state := .finished, other := { v.other with axleAssumed := true } }
  else { v with state := .finished }

theorem handed_fields (v : Visit) : (handed v).state = .finished ∧ (handed v).endCause = v.endCause ∧
    (handed v).results = v.results ∧ (handed v).bay = v.bay := by
  unfold handed
  split <;> exact ⟨rfl, rfl, rfl, rfl⟩

/-- VISIT_DONE of a visit. -/
def doneNotice (n : Nat) (v : Visit) : VisitDoneNotice :=
  ⟨n, v.bay, v.endCause, v.results.length, completedPhases v, v.quality, v.other⟩

/-- The hand-over of a visit with nothing else to post: its write starts at once. -/
theorem handOver_eq {s : State} {n : Nat} {v : Visit} (hv : s.visit? n = some v) (hp : s.cu.posting = [])
    (hw : s.cu.writing = none) : ∃ p : Price, s.handOver n = { s with
      lp := (s.notify (.visitDone (doneNotice n v))).lp
      vq := { s.vq with visits := Table.upd s.vq.visits n handed }
      cu := { s.cu with posting := [.visit n], writing := some (.visit p) } } := by
  have hfin : Table.look (Table.upd s.vq.visits n fun v => { v with state := .finished }) n =
      some { v with state := .finished } := look_upd_same hv _
  have hhand : handed = (fun v : Visit =>
      if v.axles.isNone then { v with other := { v.other with axleAssumed := true } } else v) ∘
      fun v => { v with state := .finished } := by
    funext v
    unfold handed
    rfl
  rw [hhand, ← upd_upd]
  simp only [State.handOver, State.startWrite, State.modCharges, State.modVisit, State.modVisits, State.visit?, hfin,
    State.notify, State.modLink, hp, hw, List.nil_append]
  exact ⟨_, rfl⟩

/-- The state in which a wash has ended. -/
def washEnded (s : State) (b : Bay) (n : Nat) (cause : EndCause) : State :=
  ((s.modVisit n fun v => { v with endCause := some cause }).modBay b fun r =>
    { r.stopTimers with state := .finishing, releaseHold := false }).handOver n

theorem washEnd_eq {s : State} {b : Bay} {n : Nat} (h : (s.bc.get b).held = some n) (ts : List Task) (cause : EndCause) :
    (Work.mk s ts).washEnd b cause = ⟨washEnded s b n cause, ts ++ [.drainCheck]⟩ := by
  simp only [Work.washEnd, h]
  rfl

theorem washEnded_eq {s : State} {b : Bay} {n : Nat} {v : Visit} {cause : EndCause} (hv : s.visit? n = some v)
    (hp : s.cu.posting = []) (hw : s.cu.writing = none) : ∃ p : Price, washEnded s b n cause = { s with
      lp := (s.notify (.visitDone (doneNotice n { v with endCause := some cause }))).lp
      vq := { s.vq with visits := Table.upd s.vq.visits n (handed ∘ fun v => { v with endCause := some cause }) }
      bc := s.bc.set b { (s.bc.get b).stopTimers with state := .finishing, releaseHold := false }
      cu := { s.cu with posting := [.visit n], writing := some (.visit p) } } := by
  have hv' : ((s.modVisit n fun v => { v with endCause := some cause }).modBay b fun r =>
      { r.stopTimers with state := .finishing, releaseHold := false }).visit? n =
      some { v with endCause := some cause } := look_upd_same hv _
  obtain ⟨p, h⟩ := handOver_eq hv' hp hw
  refine ⟨p, ?_⟩
  rw [washEnded, h, ← upd_upd]
  rfl

/-! ## A phase that ends with its wash -/

/-- The visit whose phase and wash have ended. -/
def washedVisit (v : Visit) (r : PhaseResult) (cause : EndCause) : Visit :=
  handed { v.addResult r with endCause := some cause }

theorem washedVisit_fields (v : Visit) (r : PhaseResult) (cause : EndCause) :
    (washedVisit v r cause).state = .finished ∧ (washedVisit v r cause).endCause = some cause ∧
      (washedVisit v r cause).results = v.results ++ [r] := by
  obtain ⟨hs, he, hr, -⟩ := handed_fields { v.addResult r with endCause := some cause }
  exact ⟨hs, he, hr⟩

/-- What stands after the end of a phase and of its wash: the phase ends, its bay is FINISHING with its visit handed
over; the water, the notices and the day totals are those of the phase end. -/
theorem wash_closed {s : State} {b : Bay} {n : Nat} {v : Visit} {p : PhaseRun} {cause : PhaseCause} {ending : EndCause}
    {carry : Nat} {water : Int} (hv : s.visit? n = some v) (hn : p.visit = n) (hp : s.cu.posting = [])
    (hw : s.cu.writing = none) (hc : carry = s.carryOff (p.fresh + p.recycled))
    (hwater : water = s.lm.vSet + (p.fresh + p.recycled - carry : Nat)) :
    ∃ (t : State) (totals : DayCounts) (reclaim : Bool) (price : Price),
      washEnded (phaseClosed s b p cause) b n ending = t ∧
      t = { s with
        lp := t.lp
        vq := { s.vq with visits := t.vq.visits }
        pr := s.pr.set b { s.pr.get b with plan := none }
        bc := s.bc.set b { (s.bc.get b).stopTimers with state := .finishing, releaseHold := false }
        qs := { s.qs with demands := s.qs.demands.set b none }
        bu := ⟨min 4294967295 (s.bu.usedToday + p.fresh), s.bu.reservations.set b none⟩
        sa := { s.sa with requests := s.sa.requests.set b false }
        lm := { s.lm with
          carried := s.lm.carried + carry
          vSet := min water s.dt.settings.pitCapacity
          discharged := s.lm.discharged + (water - s.dt.settings.pitCapacity).toNat
          reclaim := reclaim }
        cu := { s.cu with posting := [.visit n], writing := some (.visit price), totals := totals } } ∧
      Table.look t.vq.visits n = some (washedVisit v (closingResult s p cause) ending) ∧
      (water ≤ s.dt.settings.pitCapacity → totals = s.cu.totals ∧ t.lp = (s.notify (.visitDone (doneNotice n
        { v.addResult (closingResult s p cause) with endCause := some ending }))).lp) ∧
      ((s.dt.settings.pitCapacity : Int) < water →
        totals = s.cu.totals.addDischarged (water - s.dt.settings.pitCapacity).toNat) := by
  obtain ⟨lp, totals, reclaim, hclosed, hlow, hhigh⟩ :=
    phaseClosed_eq (s := s) (b := b) (p := p) (cause := cause) hc hwater
  subst hn
  have hvisit : (phaseClosed s b p cause).visit? p.visit = some (v.addResult (closingResult s p cause)) := by
    rw [hclosed]
    exact look_upd_same hv _
  have hposting : (phaseClosed s b p cause).cu.posting = [] := by rw [hclosed]; exact hp
  have hwriting : (phaseClosed s b p cause).cu.writing = none := by rw [hclosed]; exact hw
  obtain ⟨price, hended⟩ := washEnded_eq (b := b) (cause := ending) hvisit hposting hwriting
  refine ⟨_, totals, reclaim, price, hended, ?_, ?_, fun h => ⟨(hlow h).2, ?_⟩, hhigh⟩
  · simp only [hclosed]
  · exact look_upd_same hvisit _
  · obtain ⟨hlp, -⟩ := hlow h
    simp only [hclosed, hlp]
    rfl

/-- What `wash_closed` says of a phase that has delivered nothing into a pit that does not overflow. -/
structure DryWashEnd (s t : State) (b : Bay) (n : Nat) (v : Visit) (r : PhaseResult) (ending : EndCause) : Prop where
  bays : t.bc = s.bc.set b { (s.bc.get b).stopTimers with state := .finishing, releaseHold := false }
  runners : t.pr = s.pr.set b { s.pr.get b with plan := none }
  visit : Table.look t.vq.visits n = some (washedVisit v r ending)
  queues : t.vq = { s.vq with visits := t.vq.visits }
  posting : t.cu.posting = [.visit n]
  ring : t.cu.ring = s.cu.ring
  places : t.cu.reservations = s.cu.reservations
  loop : t.lm = { s.lm with reclaim := t.lm.reclaim }
  supply : t.sa = { s.sa with requests := s.sa.requests.set b false }
  sampler : t.qs = { s.qs with demands := s.qs.demands.set b none }
  blend : t.bu.reservations = s.bu.reservations.set b none
  link : t.lp = (s.notify (.visitDone (doneNotice n { v.addResult r with endCause := some ending }))).lp
  tables : t.dt = s.dt
  lanes : t.gu = s.gu
  time : t.now = s.now
  clock : t.clock = s.clock

theorem wash_closed_dry {s : State} {b : Bay} {n : Nat} {v : Visit} {p : PhaseRun} (cause : PhaseCause)
    (ending : EndCause) (hv : s.visit? n = some v) (hn : p.visit = n) (hf : p.fresh = 0) (hr : p.recycled = 0)
    (hp : s.cu.posting = []) (hw : s.cu.writing = none) (hcap : s.lm.vSet ≤ s.dt.settings.pitCapacity) :
    DryWashEnd s (washEnded (phaseClosed s b p cause) b n ending) b n v (closingResult s p cause) ending := by
  have hcarry : 0 = s.carryOff (p.fresh + p.recycled) := by simp [State.carryOff, hf, hr]
  have hwater : s.lm.vSet = s.lm.vSet + (p.fresh + p.recycled - 0 : Nat) := by simp [hf, hr]
  obtain ⟨t, totals, reclaim, price, ht, heq, hlook, hlow, -⟩ :=
    wash_closed (b := b) (cause := cause) (ending := ending) hv hn hp hw hcarry hwater
  obtain ⟨-, hlp⟩ := hlow hcap
  have hloop : t.lm = { s.lm with reclaim := reclaim } := by
    rw [heq]
    simp only [min_eq_left hcap, Int.toNat_eq_zero.mpr (Int.sub_nonpos_of_le hcap), Nat.add_zero]
  rw [ht]
  constructor
  case visit => exact hlook
  case link => exact hlp
  case loop => rw [hloop]
  all_goals rw [heq]

/-! ## The wash cut short (R75, R76) -/

theorem serving_reach (s : State) (due : Nat) (b : Bay) : (s.reach due).serving b = s.serving b := rfl

/-- A cut from the bay: what the phase end brings has no effect, and no drain is pending. -/
theorem cutWash_settle {s : State} {b : Bay} {n : Nat} {p : PhaseRun} {cause : PhaseCause} {ending : EndCause}
    (hc : cause = .cutExit ∨ cause = .abandoned) (hheld : (s.bc.get b).held = some n) (hp : s.plan? b = some p)
    (hs : s.serving b = none) (hd : s.lm.drainPending = none)
    (hloop : (washEnded (phaseClosed s b p cause) b n ending).lm.drainPending = s.lm.drainPending) :
    Machine.run s (·.cutWash b cause ending) = .next (washEnded (phaseClosed s b p cause) b n ending) := by
  obtain ⟨lp, totals, reclaim, hclosed, -⟩ := phaseClosed_eq (s := s) (b := b) (p := p) (cause := cause) rfl rfl
  have hheld' : ((phaseClosed s b p cause).bc.get b).held = some n := by rw [hclosed]; exact hheld
  have hcut : (Work.mk s []).cutWash b cause ending = ⟨washEnded (phaseClosed s b p cause) b n ending,
      [.follow b p.visit p.number cause false, .drainCheck]⟩ := by
    rw [Work.cutWash, endPhase_eq hp hs, washEnd_eq hheld']
    rfl
  have hfollow : ∀ u : State, (Work.mk u []).handle (.follow b p.visit p.number cause false) = ⟨u, []⟩ := by
    intro u
    rcases hc with rfl | rfl <;> rfl
  refine run_next hcut ?_
  rw [settle_done (hfollow _), settle_done (handle_drainCheck_calm (hloop.trans hd)), Work.settle_done]

theorem stopped_ne {s t : State} {b : Bay} {x : BayRecord} (h : t.bc = s.bc.set b x) :
    t.bc.get b = x ∧ ∀ b', b' ≠ b → t.bc.get b' = s.bc.get b' := by
  rw [h]
  exact ⟨Six.get_set_same _ _ _, fun b' hb => Six.get_set_ne _ _ _ _ hb⟩

theorem plan_cleared {s t : State} {b : Bay} (h : t.pr = s.pr.set b { s.pr.get b with plan := none }) :
    t.plan? b = none := by
  rw [State.plan?, h, Six.get_set_same]

/-- Settles O40. -/
theorem washCutShort : Obligations.WashCutShort := by
  intro b s
  refine ⟨fun h => ?releasing, fun h => ?empty, fun n v p hst hheld hv hp hn hf hr hs hd hpost hwrite hcap => ?cut⟩
  case releasing =>
    have hrow : exec (.exitButtonPress b) s =
        Machine.run s (·.upd fun s => s.modBay b fun r => { r with exitPulse := some (s.due 10) }) := by
      simp only [exec, execExitButtonPress, h]
    exact hrow.trans (run_upd s _)
  case empty => simp only [exec, execExitButtonPress, h]
  case cut =>
    refine ⟨?press, fun due hdue => ?filter⟩
    case press =>
      have hend := wash_closed_dry (b := b) .cutExit .exit hv hn hf hr hpost hwrite hcap
      have hrow : exec (.exitButtonPress b) s = Machine.run s (·.cutWash b .cutExit .exit) := by
        simp only [exec, execExitButtonPress, hst]
      obtain ⟨hbay, hothers⟩ := stopped_ne hend.bays
      obtain ⟨hfin, hcause, hres⟩ := washedVisit_fields v (closingResult s p .cutExit) .exit
      refine ⟨_, washedVisit v (closingResult s p .cutExit) .exit, closingResult s p .cutExit,
        hrow.trans (cutWash_settle (Or.inl rfl) hheld hp hs hd (by rw [hend.loop])), ?_, ?_, ?_,
        plan_cleared hend.runners, hend.visit, hfin, hcause, hres, rfl, rfl, hf, hr, hend.posting, hend.ring, ?_, ?_,
        hend.tables, hend.lanes, ?_, hothers⟩
      · rw [hbay]
      · rw [hbay]
        exact hheld
      · rw [hbay]
      · rw [hend.loop]
      · rw [hend.loop]
      · rw [hend.queues]
    case filter =>
      have hend := wash_closed_dry (s := s.reach due) (b := b) .abandoned .abandoned hv hn hf hr hpost hwrite hcap
      have hrow : exec (.lossFilterExpiry b) s = Machine.run (s.reach due) (·.cutWash b .abandoned .abandoned) := by
        show onExpiry s (s.bc.get b).lossFilter _ = _
        rw [hdue, onExpiry_some]
      obtain ⟨hbay, hothers⟩ := stopped_ne hend.bays
      obtain ⟨hfin, hcause, hres⟩ := washedVisit_fields v (closingResult (s.reach due) p .abandoned) .abandoned
      refine ⟨_, washedVisit v (closingResult (s.reach due) p .abandoned) .abandoned,
        closingResult (s.reach due) p .abandoned,
        hrow.trans (cutWash_settle (Or.inr rfl) hheld hp hs hd (by rw [hend.loop])), ?_, plan_cleared hend.runners,
        hend.visit, hfin, hcause, hres, rfl, rfl, hend.posting, hend.time, ?_, hend.tables, hend.lanes, hothers⟩
      · rw [hbay]
      · rw [hend.loop]
        rfl

/-! ## The limits of a phase (R94, R96, R100, R101) -/

theorem phaseCount_eq {s : State} {n : Nat} {v : Visit} (h : s.visit? n = some v) :
    s.phaseCount n = match s.dt.programmes.get v.programme with
      | some p => p.phases.length
      | none => 0 := by
  rw [State.phaseCount, h]
  rfl

/-- A phase that ends at a limit as the last of its wash: the wash ends COMPLETE. -/
theorem limit_settle {s : State} {b : Bay} {n : Nat} {v : Visit} {p : PhaseRun} {cause : PhaseCause}
    (hc : cause = .complete ∨ cause = .shortTime ∨ cause = .waitLimit) (hheld : (s.bc.get b).held = some n)
    (hv : s.visit? n = some v) (hp : s.plan? b = some p) (hn : p.visit = n) (hs : s.serving b = none)
    (hcount : s.phaseCount n ≤ p.number) (hd : s.lm.drainPending = none)
    (hloop : (washEnded (phaseClosed s b p cause) b n .complete).lm.drainPending = s.lm.drainPending) :
    Machine.run s (·.endPhase b cause false) = .next (washEnded (phaseClosed s b p cause) b n .complete) := by
  obtain ⟨lp, totals, reclaim, hclosed, -⟩ := phaseClosed_eq (s := s) (b := b) (p := p) (cause := cause) rfl rfl
  have hheld' : ((phaseClosed s b p cause).bc.get b).held = some n := by rw [hclosed]; exact hheld
  have hvisit : (phaseClosed s b p cause).visit? n = some (v.addResult (closingResult s p cause)) := by
    rw [hclosed, hn]
    exact look_upd_same hv _
  have hdt : (phaseClosed s b p cause).dt = s.dt := by rw [hclosed]
  have hlast : ¬ p.number < (phaseClosed s b p cause).phaseCount n := by
    rw [phaseCount_eq hvisit, hdt]
    rw [phaseCount_eq hv] at hcount
    exact Nat.not_lt.mpr hcount
  have hfollow : (Work.mk (phaseClosed s b p cause) []).handle (.follow b p.visit p.number cause false) =
      ⟨washEnded (phaseClosed s b p cause) b n .complete, [.drainCheck]⟩ := by
    rw [hn]
    rw [← List.nil_append [Task.drainCheck], ← washEnd_eq hheld']
    show (Work.mk (phaseClosed s b p cause) []).follow b n p.number cause false = _
    rcases hc with rfl | rfl | rfl <;> simp only [Work.follow, hlast, decide_false, Bool.and_false, Bool.false_eq_true,
      if_false]
  refine run_next (endPhase_eq hp hs [] cause false) ?_
  rw [List.nil_append, settle_cons hfollow, List.append_nil, settle_done (handle_drainCheck_calm (hloop.trans hd)),
    Work.settle_done]

theorem exec_phaseTimeLimit {s : State} {b : Bay} {p : PhaseRun} (hp : s.plan? b = some p) (hr : p.stage = .running) :
    exec (.phaseTimeLimit b) s = Machine.run (s.reach p.limitAt) (·.endPhase b (limitCause p) false) := by
  simp only [exec, execPhaseTimeLimit, hp, hr, if_true]

theorem exec_waitLimit {s : State} {b : Bay} {p : PhaseRun} (hp : s.plan? b = some p) (hr : p.stage = .paused) :
    exec (.waitLimit b) s = Machine.run (s.reach p.waitLimitAt) (·.endPhase b .waitLimit false) := by
  simp only [exec, execWaitLimit, hp, hr, if_true]

theorem limitCause_cases (p : PhaseRun) : limitCause p = .complete ∨ limitCause p = .shortTime ∨
    limitCause p = .waitLimit := by
  unfold limitCause
  split
  · exact Or.inr (Or.inl rfl)
  · exact Or.inl rfl

theorem phaseLimits : Clause.PhaseLimits := by
  intro b n v p s hst hheld hv hp hn hf hr hs hcount hd hpost hwrite hcap
  refine ⟨fun hrun => ?running, fun hpaused => ?paused, fun hread => ⟨?_, ?_⟩⟩
  case running =>
    have hend := wash_closed_dry (s := s.reach p.limitAt) (b := b) (limitCause p) .complete hv hn hf hr hpost hwrite hcap
    have hset := limit_settle (s := s.reach p.limitAt) (limitCause_cases p) hheld hv hp hn hs hcount hd
      (by rw [hend.loop])
    obtain ⟨hbay, hothers⟩ := stopped_ne hend.bays
    obtain ⟨hfin, hcause, hres⟩ := washedVisit_fields v (closingResult (s.reach p.limitAt) p (limitCause p)) .complete
    refine ⟨_, _, closingResult (s.reach p.limitAt) p (limitCause p), (exec_phaseTimeLimit hp hrun).trans hset,
      hend.time, ?_, plan_cleared hend.runners, hend.visit, hfin, hcause, hres, fun hk => ?_, fun hk => ?_, hend.posting,
      hend.tables, hend.lanes, ?_, hothers⟩
    · rw [hbay]
    · show limitCause p = _
      rw [limitCause, hk]
    · show limitCause p = _
      rw [limitCause, hk]
    · rw [hend.loop]
      rfl
  case paused =>
    have hend := wash_closed_dry (s := s.reach p.waitLimitAt) (b := b) .waitLimit .complete hv hn hf hr hpost hwrite hcap
    have hset := limit_settle (s := s.reach p.waitLimitAt) (Or.inr (Or.inr rfl)) hheld hv hp hn hs hcount hd
      (by rw [hend.loop])
    obtain ⟨hbay, -⟩ := stopped_ne hend.bays
    obtain ⟨hfin, hcause, hres⟩ := washedVisit_fields v (closingResult (s.reach p.waitLimitAt) p .waitLimit) .complete
    refine ⟨_, _, closingResult (s.reach p.waitLimitAt) p .waitLimit, (exec_waitLimit hp hpaused).trans hset,
      hend.time, ?_, plan_cleared hend.runners, ?_, hend.visit, hfin, hcause, hres, rfl, hend.posting, hend.tables,
      hend.lanes, ?_⟩
    · rw [hbay]
    · rw [hend.supply]
      exact Six.get_set_same _ _ _
    · rw [hend.loop]
      rfl
  · simp only [exec, execPhaseTimeLimit, hp, hread, reduceCtorEq, if_false]
  · simp only [exec, execWaitLimit, hp, hread, reduceCtorEq, if_false]

/-- The delivered water of a phase leaves the bays' side of the balance as its plan is cleared. -/
theorem vBays_cleared {s t : State} {b : Bay} {p : PhaseRun} (hp : s.plan? b = some p)
    (h : t.pr = s.pr.set b { s.pr.get b with plan := none }) : t.vBays + (p.fresh + p.recycled) = s.vBays := by
  have hb := Invariants.vBays_modRunner s b fun r => { r with plan := none }
  have hrun : runDelivered (s.pr.get b) = p.fresh + p.recycled := by
    rw [State.plan?] at hp
    rw [runDelivered, hp]
  rw [hrun] at hb
  have ht : t.vBays = (s.modRunner b fun r => { r with plan := none }).vBays := by
    rw [State.vBays, h]
    rfl
  rw [ht, hb]
  rfl

theorem phaseEndReturnsWater : Clause.PhaseEndReturnsWater := by
  intro b n v p s hst hheld hv hp hn hrun hs hcount hd hpost hwrite hoff
  have hcarry : (s.reach p.limitAt).carryOff (p.fresh + p.recycled) ≤ p.fresh + p.recycled := by
    show (p.fresh + p.recycled) * s.dt.settings.carryOff / 1000 ≤ _
    exact Nat.div_le_of_le_mul (by rw [Nat.mul_comm 1000]; exact Nat.mul_le_mul_left _ hoff)
  obtain ⟨carry, hc⟩ : ∃ carry, carry = (s.reach p.limitAt).carryOff (p.fresh + p.recycled) := ⟨_, rfl⟩
  obtain ⟨back, hback⟩ : ∃ back, back = p.fresh + p.recycled - carry := ⟨_, rfl⟩
  obtain ⟨t, totals, reclaim, price, ht, heq, hlook, hlow, hhigh⟩ :=
    wash_closed (s := s.reach p.limitAt) (b := b) (cause := limitCause p) (ending := .complete) hv hn hpost hwrite hc
      (water := s.lm.vSet + back) (by rw [hback]; rfl)
  have hset := limit_settle (s := s.reach p.limitAt) (limitCause_cases p) hheld hv hp hn hs hcount hd (by rw [ht, heq])
  have hlm : t.lm = { s.lm with
      carried := s.lm.carried + carry
      vSet := min (s.lm.vSet + back) s.dt.settings.pitCapacity
      discharged := s.lm.discharged + (s.lm.vSet + back - s.dt.settings.pitCapacity).toNat
      reclaim := reclaim } := by rw [heq]; rfl
  have hpr : t.pr = s.pr.set b { s.pr.get b with plan := none } := by rw [heq]; rfl
  have htotals : t.cu.totals = totals := by rw [heq]
  obtain ⟨-, hcause, hres⟩ := washedVisit_fields v (closingResult (s.reach p.limitAt) p (limitCause p)) .complete
  rw [ht] at hset
  have hsum : carry + back = p.fresh + p.recycled := by
    rw [← hc] at hcarry
    omega
  refine ⟨t, _, closingResult (s.reach p.limitAt) p (limitCause p), carry, back, (exec_phaseTimeLimit hp hrun).trans hset,
    hc, hsum, ?_, ?_, ?_, fun hle => ⟨?_, ?_, ?_⟩, fun hgt => ⟨?_, ?_, ?_⟩, ?_, ?_, plan_cleared hpr, hlook, hres, rfl,
    rfl, rfl, hc.symm, rfl, rfl, hcause, ?_, ?_, ?_, ?_⟩
  · rw [hlm]
  · rw [hlm]
  · rw [hlm]
  · rw [hlm]
    exact min_eq_left hle
  · rw [hlm]
    show s.lm.discharged + _ = _
    rw [Int.toNat_eq_zero.mpr (Int.sub_nonpos_of_le hle), Nat.add_zero]
  · rw [htotals]
    exact (hlow hle).1
  · rw [hlm]
    exact min_eq_right (le_of_lt hgt)
  · rw [hlm]
    push_cast
    rw [Int.toNat_of_nonneg (by omega)]
  · rw [htotals, hhigh hgt]
    rfl
  · rw [heq]
    rfl
  · have hv := vBays_cleared hp hpr
    have hlines : t.vLines = s.vLines := by rw [State.vLines, hlm]; rfl
    simp only [State.leftSide, Loop.rightSide, hlines, hlm]
    push_cast
    omega
  · rw [heq]
    exact (congrArg BayRecord.state (Six.get_set_same _ _ _)).trans rfl
  · rw [heq]
  · rw [heq]
    rfl
  · rw [heq]
    rfl

/-- Settles O45. -/
theorem phaseLimitsEndPhases : Obligations.PhaseLimitsEndPhases := ⟨phaseLimits, phaseEndReturnsWater⟩

end Sys2Proof.Proofs.Phases
end

section
/-!
The meter pulses of a bay, the nozzle generator and the sweep order (R92, R102 to R104), and a visit that is seated
(R53, R72, R74).
-/

namespace Sys2Proof.Proofs.Washing

open Sys2Proof Sys2Proof.Machine Sys2Proof.Safety Sys2Proof.Proofs.Running Sys2Proof.Proofs.Lanes Sys2Proof.Proofs.Bays
  Sys2Proof.Proofs.Phases

set_option Elab.async false

/-! ## The meter pulses (R92) -/

theorem exec_meterPulse (b : Bay) (m : Meter) (s : State) : exec (.meterPulse b m) s = Machine.run s (·.pulse b m) := rfl

theorem pulse_noPhase {s : State} {b : Bay} (h : s.plan? b = none) (m : Meter) :
    (Work.mk s []).pulse b m = ⟨s.strayPulse b, []⟩ := by
  simp only [Work.pulse, h, Work.upd]

theorem pulse_fresh_shut {s : State} {b : Bay} {p : PhaseRun} (h : s.plan? b = some p) (hv : p.freshOpen = false) :
    (Work.mk s []).pulse b .fresh = ⟨s.strayPulse b, []⟩ := by
  simp only [Work.pulse, h, hv, Bool.false_eq_true, if_false, Work.upd]

theorem pulse_recycled_shut {s : State} {b : Bay} {p : PhaseRun} (h : s.plan? b = some p) (hv : p.recycledOpen = false) :
    (Work.mk s []).pulse b .recycled = ⟨s.strayPulse b, []⟩ := by
  simp only [Work.pulse, h, hv, Bool.false_eq_true, if_false, Work.upd]

theorem endIfMet_short {w : Work} {b : Bay} {p : PhaseRun} (h : w.s.plan? b = some p) (hm : p.targetsMet = false) :
    w.endIfMet b = w := by
  simp only [Work.endIfMet, h, hm, Bool.false_eq_true, if_false]

theorem targetsMet_short {p : PhaseRun} {f : PlanFigures} (h : p.figures = some f)
    (hs : p.fresh < f.fresh ∨ p.recycled < f.recycled) : p.targetsMet = false := by
  have hf : p.plannedFresh = f.fresh := by rw [PhaseRun.plannedFresh, h]
  have hr : p.plannedRecycled = f.recycled := by rw [PhaseRun.plannedRecycled, h]
  rw [PhaseRun.targetsMet, hf, hr, Bool.and_eq_false_iff, decide_eq_false_iff_not, decide_eq_false_iff_not]
  omega

theorem plan_modPlan {s : State} {b : Bay} {p : PhaseRun} (h : s.plan? b = some p) (f : PhaseRun → PhaseRun) :
    (s.modPlan b f).plan? b = some (f p) := by
  rw [modPlan_some h, State.plan?, Six.get_set_same]

/-- A counted fresh pulse short of a target (R92). -/
theorem freshPulse_short {s : State} {b : Bay} {p : PhaseRun} {f : PlanFigures} (h : s.plan? b = some p)
    (hf : p.figures = some f) (hs : p.fresh + 1 < f.fresh ∨ p.recycled < f.recycled) :
    (Work.mk s []).freshPulse b = ⟨{ s with
      pr := s.pr.set b { s.pr.get b with
        plan := some { p with fresh := p.fresh + 1, freshOpen := decide (p.fresh + 1 < f.fresh) } }
      lm := { s.lm with freshIn := s.lm.freshIn + 1 } }, []⟩ := by
  have hplanned : p.plannedFresh = f.fresh := by rw [PhaseRun.plannedFresh, hf]
  have hplan := plan_modPlan h fun p =>
    { p with fresh := p.fresh + 1, freshOpen := decide (p.fresh + 1 < p.plannedFresh) }
  refine (endIfMet_short (w := (Work.mk s []).upd fun s => (s.modPlan b _).bookFresh) hplan
    (targetsMet_short hf hs)).trans ?_
  dsimp only [Work.upd]
  rw [modPlan_some h, hplanned]
  rfl

theorem recycledMove_fields (s : State) (b : Bay) : ∃ c : Pair SupplyState,
    s.firstPulse b = { s with sa := { s.sa with channels := c } } := by
  unfold State.firstPulse
  split
  · exact ⟨s.sa.channels, rfl⟩
  · split
    · exact ⟨_, rfl⟩
    · exact ⟨s.sa.channels, rfl⟩

/-- A counted recycled pulse short of its target (R92). -/
theorem recycledPulse_short {s : State} {b : Bay} {p : PhaseRun} {f : PlanFigures} (h : s.plan? b = some p)
    (hf : p.figures = some f) (hs : p.recycled + 1 < f.recycled) : ∃ (c : Pair SupplyState) (reclaim : Bool),
    (Work.mk s []).recycledPulse b p = ⟨{ s with
      pr := s.pr.set b { s.pr.get b with plan := some { p with recycled := p.recycled + 1 } }
      lm := { s.lm with vRec := s.lm.vRec - 1, reclaim := reclaim }
      sa := { s.sa with channels := c } }, []⟩ := by
  have hplanned : p.plannedRecycled = f.recycled := by rw [PhaseRun.plannedRecycled, hf]
  obtain ⟨c, hc⟩ := recycledMove_fields ((s.modPlan b fun p => { p with recycled := p.recycled + 1 }).bookRecycled) b
  have hplan : ((((s.modPlan b fun p => { p with recycled := p.recycled + 1 }).bookRecycled)).firstPulse b).plan? b =
      some { p with recycled := p.recycled + 1 } := by
    rw [hc]
    exact plan_modPlan h _
  refine ⟨c, ((s.modPlan b fun p => { p with recycled := p.recycled + 1 }).bookRecycled).lm.reclaim, ?_⟩
  rw [Work.recycledPulse, hplanned, if_pos hs]
  refine (endIfMet_short (w := (Work.mk s []).upd fun s =>
    ((s.modPlan b fun p => { p with recycled := p.recycled + 1 }).bookRecycled).firstPulse b) hplan
    (targetsMet_short (p := { p with recycled := p.recycled + 1 }) hf (Or.inr hs))).trans ?_
  dsimp only [Work.upd]
  rw [hc, modPlan_some h]
  rfl

/-- Settles O44. -/
theorem meterPulseBooked : Obligations.MeterPulseBooked := by
  intro b s
  refine ⟨fun m h => ?_, fun p h => ⟨fun hv => ?_, fun hv => ?_⟩,
    fun visit number length now at_ r p hp => ?_, fun p at_ => ?_, fun p f h hf => ⟨fun hv hs => ?_, fun hv hs => ?_⟩⟩
  · rw [exec_meterPulse]
    exact run_of_done (pulse_noPhase h m)
  · rw [exec_meterPulse]
    exact run_of_done (pulse_fresh_shut h hv)
  · rw [exec_meterPulse]
    exact run_of_done (pulse_recycled_shut h hv)
  · obtain ⟨-, -, -, -, -, -, hfresh, hrecycled⟩ := run_fields p at_
    rw [hfresh, hrecycled]
    subst hp
    exact ⟨rfl, rfl, rfl, rfl⟩
  · unfold PhaseRun.pause PhaseRun.freezeNozzle
    split <;> exact ⟨rfl, rfl⟩
  · rw [exec_meterPulse]
    refine run_of_done (Eq.trans ?_ (freshPulse_short h hf hs))
    simp only [Work.pulse, h, hv, if_true]
  · obtain ⟨c, reclaim, hw⟩ := recycledPulse_short h hf hs
    refine ⟨_, (exec_meterPulse b .recycled s).trans (run_of_done (Eq.trans ?_ hw)), rfl, rfl, rfl, rfl, rfl, rfl, rfl,
      rfl, rfl, rfl⟩
    simp only [Work.pulse, h, hv, if_true]

/-! ## The nozzle generator (R102 to R104) -/

theorem exec_nozzleTimeout {s : State} {b : Bay} {p : PhaseRun} {due : Nat} (h : s.plan? b = some p)
    (hd : p.gen.due = some due) : exec (.nozzleTimeout b) s = .next { s with
      now := max s.now due
      pr := s.pr.set b { s.pr.get b with plan := some (p.nozzleMove (max s.now due)) } } := by
  have hdue : ((s.plan? b).bind fun p => p.gen.due) = some due := by
    rw [h]
    exact hd
  have hrow : exec (.nozzleTimeout b) s = .next ((s.reach due).modPlan b (·.nozzleMove (max s.now due))) := by
    show onExpiry s ((s.plan? b).bind fun p => p.gen.due) _ = _
    rw [hdue]
    exact run_upd _ _
  rw [hrow, modPlan_some (s := s.reach due) h]
  rfl

theorem mem_cover (g : Nat) (l : List Nat) : g ∈ cover g l := by
  unfold cover
  split
  · exact List.contains_iff_mem.mp ‹_›
  · simp

theorem mem_cover_of_mem {g seg : Nat} {l : List Nat} (h : g ∈ l) : g ∈ cover seg l := by
  unfold cover
  split
  · exact h
  · exact List.mem_append_left _ h

theorem nozzleMoves : Clause.NozzleMoves := by
  intro b p due s h hd
  rw [exec_nozzleTimeout h hd]
  refine ⟨fun hs => ?_, fun hs => ?_, fun hs hf => ?_, fun hs hf => ?_⟩
  · simp only [PhaseRun.nozzleMove, hs]
    rfl
  · simp only [PhaseRun.nozzleMove, hs]
    rfl
  · simp only [PhaseRun.nozzleMove, hs, if_pos hf]
    rfl
  · have hmove : p.nozzleMove (max s.now due) = { p with
        gen := ⟨.on, 0, tenthsFrom (max s.now due) p.record.nozzleOn, 0⟩
        covered := cover (p.segmentAt p.sweepPos) p.covered
        sweepPos := (p.sweepPos + 1) % (sweepOrder p.record p.length).length } := by
      simp only [PhaseRun.nozzleMove, hs, if_neg (Nat.not_lt.mpr hf)]
    exact ⟨_, p.nozzleMove (max s.now due), rfl, rfl, congrArg BayRunner.plan (Six.get_set_same _ _ _), by rw [hmove]; rfl,
      by rw [hmove]; exact mem_cover _ _, by rw [hmove]; exact fun g hg => mem_cover_of_mem hg, by rw [hmove],
      by rw [hmove], by rw [hmove]⟩

/-! ## The sweep order (R103) -/

theorem mem_segmentRun {a b g : Nat} : g ∈ segmentRun a b ↔ a ≤ g ∧ g < b := by
  unfold segmentRun
  rw [List.mem_range'_1]
  omega

theorem nodup_segmentRun (a b : Nat) : (segmentRun a b).Nodup := List.nodup_range'

theorem nodup_segmentRun_append {a b : Nat} {l : List Nat} (hl : l.Nodup) (h : ∀ g ∈ l, g < a ∨ b ≤ g) :
    (segmentRun a b ++ l).Nodup := by
  refine List.Nodup.append (nodup_segmentRun a b) hl ?_
  intro g hg hgl
  rw [mem_segmentRun] at hg
  have := h g hgl
  omega

theorem head_segmentRun {a b : Nat} (h : a < b) (l : List Nat) : (segmentRun a b ++ l).head? = some a := by
  obtain ⟨k, hk⟩ : ∃ k, b - a = k + 1 := ⟨b - a - 1, by omega⟩
  rw [segmentRun, hk, List.range'_succ]
  rfl

/-- The group of a segment, as the bounds that the order uses. -/
theorem group_bounds {g s0 k : Nat} (hk : 0 < k) : g / k = s0 / k ↔ s0 / k * k ≤ g ∧ g < s0 / k * k + k := by
  rw [Nat.div_eq_iff hk]
  omega

theorem sweepOrder_linear {r : PhaseRecord} {lv : Nat} (h : r.sweepMode = .linear) :
    sweepOrder r lv = segmentRun (sweepStart r lv) lv ++ segmentRun 0 (sweepStart r lv) := by
  simp only [sweepOrder, h]

theorem sweepOrder_hybrid {r : PhaseRecord} {lv base last : Nat} (h : r.sweepMode = .hybrid)
    (hb : base = sweepStart r lv / r.sweepGroup * r.sweepGroup) (hl : last = min (base + r.sweepGroup) lv) :
    sweepOrder r lv = segmentRun (sweepStart r lv) last ++
      (segmentRun base (sweepStart r lv) ++ (segmentRun last lv ++ segmentRun 0 base)) := by
  subst hl hb
  simp only [sweepOrder, h, List.append_assoc]

theorem sweepOrder_wrap {r : PhaseRecord} {lv base last : Nat} (h : r.sweepMode = .wrap)
    (hb : base = sweepStart r lv / r.sweepGroup * r.sweepGroup) (hl : last = min (base + r.sweepGroup) lv) :
    sweepOrder r lv = segmentRun (sweepStart r lv) last ++ segmentRun base (sweepStart r lv) := by
  subst hl hb
  simp only [sweepOrder, h]

/-- The runs of each order lie side by side, and the first begins at the start segment. -/
theorem sweepOrderNamesSegments : Clause.SweepOrderNamesSegments := by
  intro r lv hlv hk
  show _ ∧ _ ∧ (_ → ∀ g, _ ↔ g < lv ∧ g / r.sweepGroup = sweepStart r lv / r.sweepGroup) ∧ _ = some (sweepStart r lv)
  have hlt : sweepStart r lv < lv := by
    unfold sweepStart
    omega
  have hmem : ∀ g, g / r.sweepGroup = sweepStart r lv / r.sweepGroup ↔
      sweepStart r lv / r.sweepGroup * r.sweepGroup ≤ g ∧
        g < sweepStart r lv / r.sweepGroup * r.sweepGroup + r.sweepGroup := fun g => group_bounds hk
  obtain ⟨base, hb⟩ : ∃ base, base = sweepStart r lv / r.sweepGroup * r.sweepGroup := ⟨_, rfl⟩
  obtain ⟨last, hl⟩ : ∃ last, last = min (base + r.sweepGroup) lv := ⟨_, rfl⟩
  have hown := (hmem _).mp rfl
  simp only [hmem, ← hb] at hown ⊢
  cases hm : r.sweepMode
  case linear =>
    rw [sweepOrder_linear hm]
    generalize sweepStart r lv = s0 at *
    refine ⟨nodup_segmentRun_append (nodup_segmentRun _ _) ?_, fun _ g => ?_, nofun, head_segmentRun hlt _⟩
    all_goals simp only [List.mem_append, mem_segmentRun]
    all_goals omega
  case hybrid =>
    rw [sweepOrder_hybrid hm hb hl]
    generalize sweepStart r lv = s0 at *
    refine ⟨nodup_segmentRun_append (nodup_segmentRun_append (nodup_segmentRun_append (nodup_segmentRun _ _) ?_) ?_) ?_,
      fun _ g => ?_, nofun, head_segmentRun (by omega) _⟩
    all_goals simp only [List.mem_append, mem_segmentRun]
    all_goals omega
  case wrap =>
    rw [sweepOrder_wrap hm hb hl]
    generalize sweepStart r lv = s0 at *
    refine ⟨nodup_segmentRun_append (nodup_segmentRun _ _) ?_, ?_, fun _ g => ?_, head_segmentRun (by omega) _⟩
    · simp only [mem_segmentRun]
      omega
    · rintro (h | h) <;> cases h
    · simp only [List.mem_append, mem_segmentRun]
      omega

/-- Settles O46. -/
theorem nozzlesAndSweeps : Obligations.NozzlesAndSweeps := ⟨nozzleMoves, sweepOrderNamesSegments⟩

/-! ## The settle runs out (R53, R72, R74) -/

theorem exec_settleTimerExpiry {s : State} {b : Bay} {due : Nat} (h : (s.bc.get b).settleTimer = some due) :
    exec (.settleTimerExpiry b) s = Machine.run (s.reach due) (·.settled b) := by
  show onExpiry s (s.bc.get b).settleTimer _ = _
  rw [h, onExpiry_some]

theorem laneSeated_idle {s : State} (h : LanesIdle s) (n : Nat) : s.laneSeated n = s := by
  have hlane : ∀ l, s.latchIfAdmitted n l = s := by
    intro l
    simp only [State.latchIfAdmitted, h l]
  rw [State.laneSeated, hlane, hlane]

/-- The record of a bay that washes a visit it holds from now (R74). -/
def washingBay (r : BayRecord) (n due : Nat) : BayRecord :=
  { r.stopTimers with
    state := .washing, held := some n, called := none, lamp := false
    lossFilter := if r.seated then none else some due }

theorem enterWashing_eq (s : State) (ts : List Task) (b : Bay) (n : Nat) :
    (Work.mk s ts).enterWashing b n =
      ⟨(s.modBay b fun r => washingBay r n (s.now + 2000)).notify (.bayState (bayStateNotice
        (washingBay (s.bc.get b) n (s.now + 2000)) b (s.bc.get b).state none)), ts ++ [.startPhase b 1]⟩ := by
  rw [← bayNotice_modBay]
  rfl

/-- The first phase of a wash that has just begun, where it is a DRY one. -/
def firstDryRun (s : State) (n : Nat) (c : Cls) (r : PhaseRecord) : PhaseRun :=
  (PhaseRun.begin n 1 (s.classLength c) s.now r).run s.now

theorem firstDryRun_fields (s : State) (n : Nat) (c : Cls) (r : PhaseRecord) :
    (firstDryRun s n c r).visit = n ∧ (firstDryRun s n c r).number = 1 ∧ (firstDryRun s n c r).record = r ∧
      (firstDryRun s n c r).stage = .running ∧ (firstDryRun s n c r).fresh = 0 ∧ (firstDryRun s n c r).recycled = 0 ∧
      (firstDryRun s n c r).freshOpen = false ∧ (firstDryRun s n c r).recycledOpen = false :=
  run_fields _ _

/-- A wash that begins with a DRY phase: its bay, its notice and its phase. -/
theorem enterWashing_dry {s : State} {b : Bay} {n : Nat} {v : Visit} {pr : Programme} {r : PhaseRecord}
    {rest : List PhaseRecord} (hplan : s.plan? b = none) (hmode : washes s.lm.mode = true)
    (hfilled : (s.bc.get b).lineFilled = true) (hv : s.visit? n = some v)
    (hpr : s.dt.programmes.get v.programme = some pr) (hph : pr.phases = r :: rest) (hk : r.kind = .dry) :
    ((Work.mk s []).enterWashing b n).settle = { s with
      bc := s.bc.set b (washingBay (s.bc.get b) n (s.now + 2000))
      pr := s.pr.set b ⟨some (firstDryRun s n v.cls r), 0⟩
      lp := (s.notify (.bayState (bayStateNotice (washingBay (s.bc.get b) n (s.now + 2000)) b (s.bc.get b).state
        none))).lp } := by
  have hget : ((s.modBay b fun r => washingBay r n (s.now + 2000)).notify (.bayState (bayStateNotice
      (washingBay (s.bc.get b) n (s.now + 2000)) b (s.bc.get b).state none))).bc.get b =
      washingBay (s.bc.get b) n (s.now + 2000) := Six.get_set_same _ _ _
  have hstart := startPhase_first_dry (congrArg BayRecord.state hget) (congrArg BayRecord.held hget) hplan hmode
    ((congrArg BayRecord.lineFilled hget).trans hfilled) hv hpr hph hk
  rw [enterWashing_eq, List.nil_append, settle_done hstart, Work.settle_done]
  rfl

theorem settled_called {s : State} {b : Bay} {n : Nat} (h : (s.bc.get b).called = some n) (hl : LanesIdle s) :
    (Work.mk s []).settled b =
      (Work.mk ((s.modCalled (without n)).modVisit n fun v => { v with state := .inBay }) []).enterWashing b n := by
  have hidle : LanesIdle ((s.modCalled (without n)).modVisit n fun v => { v with state := .inBay }) := hl
  have hseated := laneSeated_idle hidle n
  simp only [Work.settled, h, Work.seatVisit, Work.upd, hseated]

/-- Settles O42. -/
theorem settleRunsOut : Obligations.SettleRunsOut := by
  intro b due s h
  rw [exec_settleTimerExpiry h]
  refine ⟨fun hc => ?stray, fun n v pr r rest hc hv hpr hph hk hmode hfilled hplan hl => ?seated⟩
  case stray =>
    have hc' : ((s.reach due).bc.get b).called = none := hc
    refine run_of_done ?_
    simp only [Work.settled, hc']
    rfl
  case seated =>
    have hwash := enterWashing_dry (s := ((s.reach due).modCalled (without n)).modVisit n fun v =>
      { v with state := .inBay }) (b := b) (n := n) (v := { v with state := .inBay }) hplan hmode hfilled
      (look_upd_same hv _) hpr hph hk
    obtain ⟨hvisit, hnumber, hrecord, hstage, hfresh, hrecycled, -⟩ := firstDryRun_fields
      (((s.reach due).modCalled (without n)).modVisit n fun v => { v with state := .inBay }) n v.cls r
    refine ⟨_, _, congrArg Host.Outcome.next ((congrArg Work.settle (settled_called (s := s.reach due) hc hl)).trans hwash),
      ?_, ?_, ?_, ?_, ?_, ?_, rfl, congrArg BayRunner.plan (Six.get_set_same _ _ _), hvisit, hnumber, hrecord, hstage,
      hfresh, hrecycled, rfl, rfl, rfl, rfl, rfl⟩
    all_goals
      rw [Six.get_set_same]
      rfl

end Sys2Proof.Proofs.Washing
end

section
/-!
The requests on bays, visits and lanes: a visit that leaves the table, the call timer, BAY_SERVICE, RELEASE_BAY, ASSIGN_BAY,
CANCEL_VISIT and ADMIT_OVERRIDE (R41, R54 to R58, R80, R83).
-/

namespace Sys2Proof.Proofs.Visits

open Sys2Proof Sys2Proof.Machine Sys2Proof.Safety Sys2Proof.Proofs.Running Sys2Proof.Proofs.Lanes Sys2Proof.Proofs.Bays
  Sys2Proof.Proofs.Phases Sys2Proof.Proofs.Washing

set_option Elab.async false

/-! ## A visit that leaves the table (R33, R56) -/

/-- A lane that is ADMITTED with the visit is cleared. -/
def lostLane (n : Nat) (r : LaneRecord) : LaneRecord :=
  match r.state with
  | .admitted m _ => if m = n then r.cleared else r
  | _ => r

theorem clearIfAdmitted_eq (s : State) (n : Nat) (l : Lane) : s.clearIfAdmitted n l = s.modLane l (lostLane n) := by
  have hsame : ∀ r, s.gu.get l = r → s = { s with gu := s.gu.set l r } := by
    rintro r rfl
    rw [pair_set_get]
  unfold State.clearIfAdmitted State.modLane lostLane
  cases h : (s.gu.get l).state
  case admitted m c =>
    dsimp only
    split
    · rfl
    · exact hsame _ rfl
  all_goals exact hsame _ rfl

/-- The lanes when a visit has left the table. -/
def lostLanes (n : Nat) (g : Pair LaneRecord) : Pair LaneRecord := ⟨lostLane n g.p1, lostLane n g.p2⟩

theorem laneLost_eq (s : State) (n : Nat) : s.laneLost n = { s with gu := lostLanes n s.gu } := by
  rw [State.laneLost, clearIfAdmitted_eq, clearIfAdmitted_eq]
  rfl

theorem lostLanes_get (n : Nat) (g : Pair LaneRecord) (l : Lane) : (lostLanes n g).get l = lostLane n (g.get l) := by
  cases l <;> rfl

theorem lostLane_admitted {n : Nat} {r : LaneRecord} {c : Bool} (h : r.state = .admitted n c) :
    (lostLane n r).state = .idle := by
  simp only [lostLane, h, if_true]
  rfl

theorem lostLane_waiting {n : Nat} {r : LaneRecord} {a : Nat} {m : Bool} (h : (lostLane n r).state = .waiting a m) :
    r.state = .waiting a m := by
  unfold lostLane at h
  split at h
  · split at h
    · cases h
    · exact h
  · exact h

/-- The state in which a visit has left the table as CANCELLED. -/
def cancelledState (s : State) (n : Nat) (nt : CancelledNotice) : State :=
  { s with
    gu := lostLanes n s.gu
    vq := { s.vq with visits := Table.del s.vq.visits n }
    cu := { s.cu with reservations := s.cu.reservations - 1 }
    lp := (s.notify (.cancelled nt)).lp }

theorem cancelledState_withHeld (s : State) (l : List Held) (n : Nat) (nt : CancelledNotice) :
    cancelledState (withHeld s l) n nt = withHeld (cancelledState s n nt) l := by
  simp only [cancelledState, notify_withHeld]
  rfl

theorem cancelled_eq (s : State) (n : Nat) (v : Visit) (left : VisitState) (bay : Option Bay) (cause : CancelCause) :
    s.cancelled n v left bay cause = cancelledState s n ⟨n, v.lane, v.account, left, bay, cause⟩ := by
  simp only [State.cancelled, laneLost_eq]
  rfl

theorem testPending_none {s : State} (h : s.cu.pendingSummary = none) : s.testPending = s := by
  simp only [State.testPending, h]

/-- A removal with no lane WAITING and no pending summary brings nothing more. -/
theorem removeVisit_settle {s : State} {n : Nat} {v : Visit} {left : VisitState} {bay : Option Bay} {cause : CancelCause}
    (hv : s.visit? n = some v) (hw : NoWaitingLane s) (hp : s.cu.pendingSummary = none) :
    ((Work.mk s []).removeVisit n left bay cause).settle =
      cancelledState s n ⟨n, v.lane, v.account, left, bay, cause⟩ := by
  have hpending : (cancelledState s n ⟨n, v.lane, v.account, left, bay, cause⟩).testPending =
      cancelledState s n ⟨n, v.lane, v.account, left, bay, cause⟩ := testPending_none hp
  have hremove : (Work.mk s []).removeVisit n left bay cause =
      ⟨cancelledState s n ⟨n, v.lane, v.account, left, bay, cause⟩, [.capacity]⟩ := by
    simp only [Work.removeVisit, hv, Work.upd, cancelled_eq, hpending]
    rfl
  have hwaiting : NoWaitingLane (cancelledState s n ⟨n, v.lane, v.account, left, bay, cause⟩) := by
    rw [noWaitingLane_iff] at hw ⊢
    intro l a m h
    exact hw l a m (lostLane_waiting ((congrArg LaneRecord.state (lostLanes_get n s.gu l)).symm.trans h))
  rw [hremove, settle_done (Work.handle_capacity_calm _ hwaiting), Work.settle_done]

/-! ## The call timer (R54, R70) -/

theorem exec_callTimerExpiry {s : State} {b : Bay} {due n : Nat} (h : (s.bc.get b).callTimer = some due)
    (hc : (s.bc.get b).called = some n) : exec (.callTimerExpiry b) s = Machine.run (s.reach due) (·.noShow b n) := by
  have hc' : ((s.reach due).bc.get b).called = some n := hc
  show onExpiry s (s.bc.get b).callTimer _ = _
  rw [h, onExpiry_some, Machine.run, Machine.run]
  dsimp only
  rw [hc']

/-- The call of a bay that is not CALLED ends without a rest test. -/
theorem callEnded_stays {w : Work} {b : Bay} (h : (w.s.bc.get b).state ≠ .called) :
    w.callEnded b = w.upd (·.modBay b fun r => { r with called := none, callTimer := none, lamp := false }) := by
  refine if_neg ?_
  show ¬ ((w.s.modBay b fun r => { r with called := none, callTimer := none, lamp := false }).bc.get b).state = .called
  rw [bay_modBay]
  exact h

/-- The state in which a bay's call has ended, its visit still in the table. -/
def callOver (s : State) (b : Bay) (n : Nat) : State :=
  (s.modCalled (without n)).modBay b fun r => { r with called := none, callTimer := none, lamp := false }

theorem noShow_first {s : State} {b : Bay} {n : Nat} {v : Visit} (hst : (s.bc.get b).state = .seating)
    (hv : s.visit? n = some v) (h0 : v.noShow = 0) (hq : s.vq.queue.length < 24) :
    (Work.mk s []).noShow b n = ⟨((callOver s b n).requeue n 1).modQueue (· ++ [n]), [.matchPass]⟩ := by
  have hended := callEnded_stays (w := (Work.mk s []).upd (·.modCalled (without n))) (b := b)
    (show (s.bc.get b).state ≠ .called by rw [hst]; decide)
  simp only [Work.noShow, hv, hended]
  exact if_pos ⟨h0, hq⟩

theorem noShow_again {s : State} {b : Bay} {n : Nat} {v : Visit} (hst : (s.bc.get b).state = .seating)
    (hv : s.visit? n = some v) (h1 : 1 ≤ v.noShow) :
    (Work.mk s []).noShow b n = (Work.mk (callOver s b n) []).removeVisit n .called (some b) .noShow := by
  have hended := callEnded_stays (w := (Work.mk s []).upd (·.modCalled (without n))) (b := b)
    (show (s.bc.get b).state ≠ .called by rw [hst]; decide)
  simp only [Work.noShow, hv, hended]
  exact if_neg fun h => by omega

/-- Settles O41. -/
theorem callTimesOut : Obligations.CallTimesOut := by
  intro b n due v s hst htimer hcalled hv he
  rw [exec_callTimerExpiry htimer hcalled]
  refine ⟨fun h0 hq => ?_, fun h1 hw hp => ?_⟩
  · have hempty : NoEmptyBay (((callOver (s.reach due) b n).requeue n 1).modQueue (· ++ [n])) := by
      intro c
      show ((s.bc.set b { s.bc.get b with called := none, callTimer := none, lamp := false }).get c).state ≠ _
      rw [six_get_set]
      split
      · rw [hst]
        decide
      · exact he c
    exact run_next (noShow_first hst hv h0 hq)
      ((settle_done (handle_matchPass_calm (qualifies_of_noEmptyBay hempty))).trans (Work.settle_done _))
  · have hset := removeVisit_settle (s := callOver (s.reach due) b n) (left := .called) (bay := some b)
      (cause := .noShow) hv hw hp
    exact ⟨_, congrArg Host.Outcome.next ((congrArg Work.settle (noShow_again (s := s.reach due) hst hv h1)).trans hset), rfl, rfl, rfl,
      rfl, rfl, rfl, rfl⟩

/-! ## CANCEL_VISIT (R57) -/

theorem cancel_queued {s : State} {n : Nat} {v : Visit} (hv : s.visit? n = some v) (hq : v.state = .queued)
    (cause : CancelCause) :
    (Work.mk s []).cancel n cause = (Work.mk (s.modQueue (without n)) []).removeVisit n .queued none cause := by
  simp only [Work.cancel, hv, hq, Work.upd]

theorem cancel_queued_settle {s : State} {n : Nat} {v : Visit} (hv : s.visit? n = some v) (hq : v.state = .queued)
    (hw : NoWaitingLane s) (hp : s.cu.pendingSummary = none) (cause : CancelCause) :
    ((Work.mk s []).cancel n cause).settle =
      cancelledState (s.modQueue (without n)) n ⟨n, v.lane, v.account, .queued, none, cause⟩ := by
  rw [cancel_queued hv hq]
  exact removeVisit_settle (s := s.modQueue (without n)) hv hw hp

theorem exec_cancelVisit (tag : Byte) (n : Nat) (s : State) :
    exec (.cancelVisit tag (.fields n)) s = .next (s.offer tag (.cancelVisit (.fields n))) := rfl

/-- Settles O29. -/
theorem visitCancelled : Obligations.VisitCancelled := by
  intro tag n s hs
  rw [exec_cancelVisit]
  refine ⟨fun h0 => ?_, fun h0 hv => ?_, fun v h0 hv => ⟨fun hst => ?_, fun hst hw hp => ?_⟩⟩
  · rw [offer_says hs fun w _ => ?_]
    · rfl
    · exact if_pos h0
  · rw [offer_says hs fun w hw => ?_]
    · rfl
    · have hv' : w.s.visit? n = none := by rw [hw]; exact hv
      refine (if_neg h0).trans ?_
      rw [hv']
      rfl
  · rw [offer_says hs fun w hw => ?_]
    · rfl
    · have hv' : w.s.visit? n = some v := by rw [hw]; exact hv
      refine (if_neg h0).trans ?_
      rw [hv']
      rcases hst with hst | hst | hst <;> simp only [hst] <;> rfl
  · have hvisit : (withHeld s [⟨tag, .cancelVisit (.fields n)⟩]).visit? n = some v := hv
    have ho : (Work.mk (withHeld s [⟨tag, .cancelVisit (.fields n)⟩]) []).owner (.cancelVisit (.fields n)) =
        ((Work.mk (withHeld s [⟨tag, .cancelVisit (.fields n)⟩]) []).cancel n .host, .ready .ok .none) := by
      refine (if_neg h0).trans ?_
      simp only [hvisit, hst]
      rfl
    have hset : ((Work.mk (withHeld s [⟨tag, .cancelVisit (.fields n)⟩]) []).cancel n .host).settle =
        withHeld (cancelledState (s.modQueue (without n)) n ⟨n, v.lane, v.account, .queued, none, .host⟩)
          [⟨tag, .cancelVisit (.fields n)⟩] := by
      rw [cancel_queued_settle (s := withHeld s _) hvisit hst hw hp]
      exact cancelledState_withHeld (s.modQueue (without n)) _ _ _
    have hheld : (cancelledState (s.modQueue (without n)) n ⟨n, v.lane, v.account, .queued, none, .host⟩).lp.holding =
        [] := (notify_holding _ _).trans hs.1
    refine ⟨_, congrArg Host.Outcome.next (offer_settled hs ho hset hheld), rfl, rfl, rfl, fun l hl => ?_, rfl, rfl, rfl,
      rfl, rfl, rfl, rfl⟩
    obtain ⟨c, hc⟩ := hl
    show ((lostLanes n s.gu).get l).state = .idle
    rw [lostLanes_get]
    exact lostLane_admitted hc

/-! ## BAY_SERVICE and RELEASE_BAY (R80, R83) -/

theorem exec_bayService (tag : Byte) (f : BayService) (s : State) :
    exec (.bayService tag (.fields f)) s = .next (s.offer tag (.bayService (.fields f))) := rfl

theorem exec_releaseBay (tag : Byte) (n : Nat) (s : State) :
    exec (.releaseBay tag (.fields n)) s = .next (s.offer tag (.releaseBay (.fields n))) := rfl

/-- A BAY_SERVICE outside REFILL that only writes the bay's flag. -/
theorem offer_bayService {s : State} {tag : Byte} {n : Nat} {b : Bay} {wanted : ServiceWanted} {flag : ServiceFlag}
    (hs : LinkReady s) (hb : Bay.ofNat? n = some b) (hm : s.lm.mode ≠ .refill)
    (hw : ∀ w : Work, w.s.bc = s.bc → w.service b wanted = w.upd (·.setService b flag)) :
    s.offer tag (.bayService (.fields ⟨n, some wanted⟩)) =
      ({ s with bc := s.bc.set b { s.bc.get b with service := flag } }.answer
        ⟨0x93, tag, .ok, .service flag⟩) := by
  have hserved : ∀ w : Work, w.s.bc = s.bc → w.s.lm = s.lm → w.serviceTaken b wanted = w.upd (·.setService b flag) := by
    intro w hbc hlm
    have hmode : ¬ ((w.upd (·.setService b flag)).s.mode = .refill ∧ (w.upd (·.setService b flag)).s.noRefill = true) :=
      fun h => hm ((congrArg Loop.mode hlm).symm.trans h.1)
    rw [Work.serviceTaken, hw w hbc]
    exact if_neg hmode
  have ho : (Work.mk (withHeld s [⟨tag, .bayService (.fields ⟨n, some wanted⟩)⟩]) []).owner
      (.bayService (.fields ⟨n, some wanted⟩)) =
      (⟨withHeld (s.setService b flag) [⟨tag, .bayService (.fields ⟨n, some wanted⟩)⟩], []⟩, .serviceNow b) := by
    show (Work.mk _ []).reqBayService _ = _
    simp only [Work.reqBayService, Work.withBody, hb]
    rw [hserved _ rfl rfl]
    rfl
  rw [offer_settled hs ho (Work.settle_done _) hs.1]
  show State.answer _ ⟨0x93, tag, .ok, .service ((s.setService b flag).bc.get b).service⟩ = _
  rw [State.setService, bay_modBay]
  rfl

theorem bay_ofNat_none {n : Nat} (h : n = 0 ∨ 6 < n) : Bay.ofNat? n = none := by
  unfold Bay.ofNat?
  split <;> first | omega | rfl

theorem bayServiceSet : Clause.BayServiceSet := by
  intro tag n s hs hm
  refine ⟨fun b hb => ⟨fun hst hf => ?_, fun h1 h2 h3 hf => ?_, fun hf => ?_⟩, fun hn => ?_⟩
  · rw [exec_bayService, offer_bayService hs hb hm fun w hw => ?_]
    simp only [Work.service, Work.takeOut, hw, hf, hst]
  · rw [exec_bayService, offer_bayService hs hb hm fun w hw => ?_]
    simp only [Work.service, Work.takeOut, hw, hf]
  · rw [exec_bayService, offer_bayService hs hb hm fun w hw => ?_]
    simp only [Work.service, hw, hf]
  · rw [exec_bayService, offer_says hs fun w _ => ?_]
    · rfl
    · show w.reqBayService _ = _
      simp only [Work.reqBayService, Work.withBody, bay_ofNat_none hn]
      rfl

/-- The record of a bay that releases its vehicle from a time on (R81). -/
def releasingBay (r : BayRecord) (now : Nat) : BayRecord :=
  { r with state := .releasing, releaseHold := false, exitPulse := some (now + 10000), exitStall := some (now + 120000) }

theorem enterReleasing_eq (s : State) (b : Bay) :
    s.enterReleasing b = { s with
      bc := s.bc.set b (releasingBay (s.bc.get b) s.now)
      lp := (s.notify (.bayState ⟨b, .releasing, (s.bc.get b).state, (s.bc.get b).held, none, (s.bc.get b).service,
        (s.bc.get b).lineFilled, (s.bc.get b).lastFault⟩)).lp } := by
  simp only [State.enterReleasing, State.bayNotice, bay_modBay]
  rfl

theorem bayReleased : Clause.BayReleased := by
  intro tag n b s hs hb
  refine ⟨fun h => ?_, fun h1 h2 => ?_⟩
  · have hrel : (s.bc.get b).releasable = true := by
      rcases h with h | ⟨h, hh⟩ <;> simp only [BayRecord.releasable, h]
      exact hh
    have ho : (Work.mk (withHeld s [⟨tag, .releaseBay (.fields n)⟩]) []).owner (.releaseBay (.fields n)) =
        (⟨withHeld (s.enterReleasing b) [⟨tag, .releaseBay (.fields n)⟩], []⟩, .ready .ok .none) := by
      have hrel' : ((withHeld s [⟨tag, .releaseBay (.fields n)⟩]).bc.get b).releasable = true := hrel
      show (Work.mk _ []).reqReleaseBay _ = _
      simp only [Work.reqReleaseBay, Work.withBody, hb, hrel', if_true, Work.upd, enterReleasing_eq, notify_withHeld]
      rfl
    refine ⟨⟨b, .releasing, (s.bc.get b).state, (s.bc.get b).held, none, (s.bc.get b).service,
      (s.bc.get b).lineFilled, (s.bc.get b).lastFault⟩, rfl, rfl, rfl, rfl, ?_⟩
    rw [exec_releaseBay, offer_done hs ho (by rw [enterReleasing_eq]; exact (notify_holding _ _).trans hs.1),
      enterReleasing_eq]
    rfl
  · have hrel : (s.bc.get b).releasable = false := by
      unfold BayRecord.releasable
      split
      · exact (h2.resolve_left (not_not_intro ‹_›))
      · exact absurd ‹_› h1
      · rfl
    rw [exec_releaseBay, offer_says hs fun w hw => ?_]
    · rfl
    · have hrel' : (w.s.bc.get b).releasable = false := by rw [hw]; exact hrel
      show w.reqReleaseBay _ = _
      simp only [Work.reqReleaseBay, Work.withBody, hb, hrel', Bool.false_eq_true, if_false]
      rfl

/-- Settles O27. -/
theorem bayServedAndReleased : Obligations.BayServedAndReleased := ⟨bayServiceSet, bayReleased⟩

/-! ## ASSIGN_BAY (R58) -/

theorem hasTwice_of_nodup {l : List Nat} (h : l.Nodup) : hasTwice l = false := by
  induction l with
  | nil => rfl
  | cons a rest ih =>
    obtain ⟨ha, hr⟩ := List.nodup_cons.mp h
    simp [hasTwice, ih hr, ha]

/-- The account of an ASSIGN_BAY: number 0 stands for a casual vehicle. -/
def assignedAccount (n : Nat) : Option Nat := if n = 0 then none else some n

theorem checkAssign_eq {f : AssignBay} {b : Bay} {c : Cls} {p : Prog} (hb : Bay.ofNat? f.bay = some b)
    (hc : Cls.ofNat? f.cls = some c) (hp : Prog.ofNat? f.programme = some p) (hl : f.tags.length ≤ 4)
    (hn : f.tags.Nodup) (h0 : 0 ∉ f.tags) : checkAssign f = some ⟨b, assignedAccount f.account, c, p, f.tags⟩ := by
  have hok : (decide (f.tags.length ≤ 4) && !f.tags.contains 0 && !hasTwice f.tags) = true := by
    simp [hl, h0, hasTwice_of_nodup hn]
  simp only [checkAssign, hb, hc, hp, Option.bind_eq_bind, Option.bind_some, hok, if_true]
  rfl

theorem exec_assignBay (tag : Byte) (f : AssignBay) (s : State) :
    exec (.assignBay tag (.fields f)) s = .next (s.offer tag (.assignBay (.fields f))) := rfl

/-- Check 3 of ASSIGN_BAY passes: the account, where one is named, and the programme are defined. -/
theorem assign_defined {s : State} {f : AssignBay} {p : Prog} {pr : Programme}
    (ha : f.account = 0 ∨ Table.has s.dt.accounts f.account = true) (hpr : s.dt.programmes.get p = some pr) :
    ((assignedAccount f.account).any (fun n => !Table.has s.dt.accounts n) || !s.defines p) = false := by
  have hdef : s.defines p = true := by rw [State.defines, hpr]; rfl
  rw [hdef, Bool.not_true, Bool.or_false]
  unfold assignedAccount
  rcases ha with ha | ha
  · rw [if_pos ha]
    rfl
  · split
    · rfl
    · rw [Option.any_some, ha]
      rfl

/-- The owner of an ASSIGN_BAY whose operands are in range and defined: checks 4 to 6, then the visit. -/
theorem reqAssignBay_eq {w : Work} {f : AssignBay} {g : AssignFields} {pr : Programme} (hg : checkAssign f = some g)
    (ha : f.account = 0 ∨ Table.has w.s.dt.accounts f.account = true) (hacc : g.account = assignedAccount f.account)
    (hpr : w.s.dt.programmes.get g.programme = some pr) :
    w.reqAssignBay (.fields f) =
      if (w.s.bc.get g.bay).state ≠ .stray then w.say .state
      else if g.tags.any w.s.tagHeld then w.say .duplicate
      else if 32 ≤ w.s.vq.visits.length ∨ 61 < w.s.places then w.say .full
      else (w.assign g).ok (.assigned w.s.newNumber) := by
  have hdef := assign_defined (s := w.s) ha hpr
  rw [← hacc] at hdef
  simp only [Work.reqAssignBay, Work.withBody, hg, hdef, Bool.false_eq_true, if_false]

/-- What an ASSIGN_BAY of a bay whose wash begins with a DRY phase comes to. -/
def assignedState (s : State) (g : AssignFields) (r : PhaseRecord) : State :=
  { s.enrol s.newNumber (s.assignedVisit g) with
    bc := s.bc.set g.bay (washingBay (s.bc.get g.bay) s.newNumber (s.now + 2000))
    pr := s.pr.set g.bay ⟨some (firstDryRun s s.newNumber g.cls r), 0⟩
    lp := (s.notify (.bayState (bayStateNotice (washingBay (s.bc.get g.bay) s.newNumber (s.now + 2000)) g.bay
      (s.bc.get g.bay).state none))).lp }

theorem assignedState_withHeld (s : State) (l : List Held) (g : AssignFields) (r : PhaseRecord) :
    assignedState (withHeld s l) g r = withHeld (assignedState s g r) l := by
  simp only [assignedState, notify_withHeld]
  rfl

theorem assign_settle {s : State} {g : AssignFields} {pr : Programme} {r : PhaseRecord} {rest : List PhaseRecord}
    (hplan : s.plan? g.bay = none) (hmode : washes s.lm.mode = true) (hfilled : (s.bc.get g.bay).lineFilled = true)
    (hpr : s.dt.programmes.get g.programme = some pr) (hph : pr.phases = r :: rest) (hk : r.kind = .dry) :
    ((Work.mk s []).assign g).settle = assignedState s g r :=
  enterWashing_dry (s := s.enrol s.newNumber (s.assignedVisit g)) (v := s.assignedVisit g) hplan hmode hfilled
    (Table.look_put_same _ _ _) hpr hph hk

/-- Settles O28. -/
theorem bayAssigned : Obligations.BayAssigned := by
  intro tag f b c p pr r rest s hs hb hc hp hl hn h0 ha hpr hph
  have hg := checkAssign_eq hb hc hp hl hn h0
  have howner : ∀ w : Work, w.s = withHeld s [⟨tag, .assignBay (.fields f)⟩] → _ :=
    fun w hw => reqAssignBay_eq (w := w) hg (by rw [hw]; exact ha) rfl (by rw [hw]; exact hpr)
  rw [exec_assignBay]
  refine ⟨fun hst => ?_, fun hst hd => ?_, fun hst hd hv hpl hk hmode hfilled hplan => ?_⟩
  · rw [offer_says hs fun w hw => ?_]
    · rfl
    · refine (howner w hw).trans (if_pos ?_)
      rw [hw]
      exact hst
  · rw [offer_says hs fun w hw => ?_]
    · rfl
    · refine (howner w hw).trans ((if_neg ?_).trans (if_pos ?_))
      · rw [hw]
        exact not_not_intro hst
      · rw [hw]
        exact List.any_eq_true.mpr hd
  · have ho : (Work.mk (withHeld s [⟨tag, .assignBay (.fields f)⟩]) []).owner (.assignBay (.fields f)) =
        ((Work.mk (withHeld s [⟨tag, .assignBay (.fields f)⟩]) []).assign ⟨b, assignedAccount f.account, c, p, f.tags⟩,
          .ready .ok (.assigned s.newNumber)) := by
      refine (howner _ rfl).trans ((if_neg (not_not_intro hst)).trans ((if_neg ?_).trans ((if_neg ?_).trans rfl)))
      · rw [List.any_eq_true]
        rintro ⟨g, hgm, hgh⟩
        exact absurd (hgh.symm.trans (hd g hgm)) (by decide)
      · show ¬ (32 ≤ s.vq.visits.length ∨ 61 < s.places)
        omega
    have hset := assign_settle (s := withHeld s [⟨tag, .assignBay (.fields f)⟩])
      (g := ⟨b, assignedAccount f.account, c, p, f.tags⟩) hplan hmode hfilled hpr hph hk
    rw [assignedState_withHeld] at hset
    obtain ⟨hvisit, hnumber, hrecord, hstage, -, -, hfresh, hrecycled⟩ := firstDryRun_fields s s.newNumber c r
    refine ⟨_, s.assignedVisit ⟨b, assignedAccount f.account, c, p, f.tags⟩, _, _,
      congrArg Host.Outcome.next (offer_settled hs ho hset ((notify_holding _ _).trans hs.1)),
      rfl, rfl, rfl, rfl, rfl, rfl, rfl, rfl, rfl, rfl, fun hz => ⟨?_, ?_⟩, fun hz => ?_, rfl, rfl, rfl, ?_, ?_,
      congrArg BayRunner.plan (Six.get_set_same _ _ _), hvisit, hnumber, hrecord, hstage, hfresh, hrecycled, rfl, rfl, hst,
      rfl, rfl, rfl, rfl, rfl, rfl, fun b' hb' => ⟨Six.get_set_ne _ _ _ _ hb', Six.get_set_ne _ _ _ _ hb'⟩⟩
    · exact if_pos hz
    · show s.permitFor (assignedAccount f.account) = true
      rw [assignedAccount, if_pos hz]
      rfl
    · exact if_neg hz
    · exact congrArg BayRecord.state (Six.get_set_same _ _ _)
    · exact congrArg BayRecord.held (Six.get_set_same _ _ _)

/-! ## ADMIT_OVERRIDE (R41) -/

theorem exec_admitOverride (tag : Byte) (n : Nat) (s : State) :
    exec (.admitOverride tag (.fields n)) s = .next (s.offer tag (.admitOverride (.fields n))) := rfl

theorem reqAdmitOverride_refused {w : Work} {n : Nat} {l : Lane} {x : RefuseReason} (hl : Lane.ofNat? n = some l)
    (h : (w.s.gu.get l).state = .refused x) :
    w.reqAdmitOverride (.fields n) = ((w.decideLane l true).1, .ready .ok (.decision (w.decideLane l true).2)) := by
  simp only [Work.reqAdmitOverride, Work.withBody, hl, h, Work.ok]

theorem reqAdmitOverride_other {w : Work} {n : Nat} {l : Lane} (hl : Lane.ofNat? n = some l)
    (h : ∀ x, (w.s.gu.get l).state ≠ .refused x) : w.reqAdmitOverride (.fields n) = w.say .state := by
  simp only [Work.reqAdmitOverride, Work.withBody, hl]

theorem refuse_withHeld (s : State) (held : List Held) (l : Lane) (reason : RefuseReason) (o : Bool) :
    (withHeld s held).refuse l reason o = withHeld (s.refuse l reason o) held := by
  rw [refuse_eq, refuse_eq, ← notify_withHeld]
  rfl

theorem admittedState_withHeld (s : State) (held : List Held) (l : Lane) (r : LaneRecord) (o : Bool) :
    admittedState (withHeld s held) l r o = withHeld (admittedState s l r o) held := by
  have h := congrArg State.lp (notify_withHeld s held (.admitted (admittedNotice s l r o)))
  show { admittedState (withHeld s held) l r o with
    lp := ((withHeld s held).notify (.admitted (admittedNotice s l r o))).lp } = _
  rw [h]
  rfl

/-- Settles O30. -/
theorem overrideDecided : Obligations.OverrideDecided := by
  intro tag n l s hs hl
  rw [exec_admitOverride]
  refine ⟨fun h => ?other, fun x hx => ⟨fun hm => ?closed, fun hm hb hsh he => ?admitted⟩⟩
  case other =>
    have ho : ∀ w : Work, w.s = withHeld s [⟨tag, .admitOverride (.fields n)⟩] →
        w.owner (.admitOverride (.fields n)) = (w, .ready .state .none) :=
      fun w hw => reqAdmitOverride_other hl (by rw [hw]; exact h)
    rw [offer_says hs ho]
    rfl
  case closed =>
    have hd := decideLane_refused (w := Work.mk (withHeld s [⟨tag, .admitOverride (.fields n)⟩]) [])
      (refusal_closed (s := withHeld s _) hm (s.gu.get l).tags (s.identity (s.gu.get l).tags) true)
    have ho : (Work.mk (withHeld s [⟨tag, .admitOverride (.fields n)⟩]) []).owner (.admitOverride (.fields n)) =
        (⟨withHeld (s.refuse l .closed true) [⟨tag, .admitOverride (.fields n)⟩], []⟩,
          .ready .ok (.decision (.refused .closed))) := by
      refine (reqAdmitOverride_refused hl (x := x) hx).trans ?_
      rw [hd, ← refuse_withHeld]
      rfl
    have hheld : (s.refuse l .closed true).lp.holding = [] := by
      rw [refuse_eq, notify_holding]
      exact hs.1
    rw [offer_done hs ho hheld, refuse_eq]
    exact ⟨_, refusedNotice s l (s.gu.get l).tags .closed true, rfl,
      congrArg LaneRecord.state (Pair.get_set_same _ _ _), rfl, rfl, rfl, rfl, rfl, rfl, rfl, rfl, rfl⟩
  case admitted =>
    have hr : s.refusal (s.gu.get l).tags (s.identity (s.gu.get l).tags) true = none := by
      rw [refusal_opened hm, hb]
      rfl
    have hd := decideLane_admitted (w := Work.mk (withHeld s [⟨tag, .admitOverride (.fields n)⟩]) []) (l := l)
      (o := true) hr hsh
    have ho : (Work.mk (withHeld s [⟨tag, .admitOverride (.fields n)⟩]) []).owner (.admitOverride (.fields n)) =
        (⟨withHeld (admittedState s l (s.gu.get l) true) [⟨tag, .admitOverride (.fields n)⟩], [.matchPass]⟩,
          .ready .ok (.decision (.admitted s.newNumber))) := by
      refine (reqAdmitOverride_refused hl (x := x) hx).trans ?_
      rw [hd, ← admittedState_withHeld]
      rfl
    have hcalm := handle_matchPass_calm (qualifies_of_noEmptyBay
      (s := withHeld (admittedState s l (s.gu.get l) true) [⟨tag, .admitOverride (.fields n)⟩]) he)
    have hset := (settle_done (rest := []) hcalm).trans (Work.settle_done _)
    refine ⟨_, admittedVisit s l (s.gu.get l) true, admittedNotice s l (s.gu.get l) true,
      congrArg Host.Outcome.next (offer_settled hs ho hset ((notify_holding _ _).trans hs.1)), ?_, ?_, rfl, rfl, rfl, rfl,
      rfl, rfl, rfl, rfl, rfl, rfl, rfl, rfl, rfl, rfl, rfl⟩
    · exact congrArg LaneRecord.state (Pair.get_set_same _ _ _)
    · exact congrArg LaneRecord.barrierPulse (Pair.get_set_same _ _ _)

end Sys2Proof.Proofs.Visits
end

section
/-!
The table requests (R2 to R17): what each check of a body accepts, said once as an equivalence, and the requests on
accounts, tags, programmes, tariffs, classes and settings.
-/

namespace Sys2Proof.Proofs.Tables

open Sys2Proof Sys2Proof.Machine Sys2Proof.Safety Sys2Proof.Proofs.Running Sys2Proof.Proofs.LinkPort

set_option Elab.async false

/-! ## Rows of requests -/

/-- A request that its owner answers without doing anything. -/
theorem exec_says {i : Instr} {tag : Byte} {r : Request} {s : State} {c : ResultCode} {d : ReplyData}
    (hi : asRequest i = some (tag, r)) (hs : LinkReady s)
    (ho : ∀ w : Work, w.s = withHeld s [⟨tag, r⟩] → w.owner r = (w, .ready c d)) :
    exec i s = .next (s.answer ⟨r.replyKind, tag, c, d⟩) := by
  rw [exec_asRequest hi, offer_says hs ho]

/-- A request whose owner does one operation on the state and brings nothing more. -/
theorem exec_done {i : Instr} {tag : Byte} {r : Request} {s v : State} {c : ResultCode} {d : ReplyData}
    (hi : asRequest i = some (tag, r)) (hs : LinkReady s)
    (ho : (Work.mk (withHeld s [⟨tag, r⟩]) []).owner r = (⟨withHeld v [⟨tag, r⟩], []⟩, .ready c d))
    (hh : v.lp.holding = []) : exec i s = .next (v.answer ⟨r.replyKind, tag, c, d⟩) := by
  rw [exec_asRequest hi, offer_done hs ho hh]

/-- A request whose owner brings something more, taken before the reply is formed. -/
theorem exec_settled {i : Instr} {tag : Byte} {r : Request} {s v : State} {a : Answered}
    (hi : asRequest i = some (tag, r)) (hs : LinkReady s)
    (ho : (Work.mk (withHeld s [⟨tag, r⟩]) []).owner r = a) (hv : a.1.settle = withHeld v [⟨tag, r⟩])
    (hh : v.lp.holding = []) :
    exec i s = .next (v.answer ⟨r.replyKind, tag, (v.formReply a.2).1, (v.formReply a.2).2⟩) := by
  rw [exec_asRequest hi, offer_settled hs ho hv hh]

/-- A request whose owner leaves the link alone. -/
theorem exec_apart {i : Instr} {tag : Byte} {r : Request} {s t : State} {a : Answered}
    (hi : asRequest i = some (tag, r)) (hs : LinkReady s)
    (ho : (Work.mk (withHeld s [⟨tag, r⟩]) []).owner r = a) (ht : a.1.settle = t)
    (hl : t.lp = (withHeld s [⟨tag, r⟩]).lp) :
    exec i s = .next (({ t with lp := s.lp } : State).answer ⟨r.replyKind, tag, (t.formReply a.2).1, (t.formReply a.2).2⟩) := by
  have hheld : withHeld { t with lp := s.lp } [⟨tag, r⟩] = t := by
    show { t with lp := (withHeld s [⟨tag, r⟩]).lp } = t
    rw [← hl]
  have hform : ∀ f, State.formReply { t with lp := s.lp } f = t.formReply f := by
    intro f
    cases f <;> rfl
  rw [exec_settled hi hs ho (ht.trans hheld.symm) hs.1, hform]

/-! ## Numbers -/

theorem within_iff {lo hi n : Nat} : within lo hi n = true ↔ lo ≤ n ∧ n ≤ hi := by
  simp [within]

theorem withinInt_iff {lo hi n : Int} : withinInt lo hi n = true ↔ lo ≤ n ∧ n ≤ hi := by
  simp [withinInt]

theorem prog_ofNat_none {n : Nat} (h : n = 0 ∨ 12 < n) : Prog.ofNat? n = none := by
  unfold Prog.ofNat?
  split <;> first | omega | rfl

theorem trf_ofNat_none {n : Nat} (h : 7 < n) : Trf.ofNat? n = none := by
  unfold Trf.ofNat?
  split <;> first | omega | rfl

theorem has_of_look_none {α : Type} {t : Table α} {k : Nat} (h : Table.look t k = none) : Table.has t k = false := by
  simp [Table.has, h]

theorem has_of_look_some {α : Type} {t : Table α} {k : Nat} (h : Table.look t k ≠ none) : Table.has t k = true := by
  rw [Table.has, Option.isSome_iff_ne_none]
  exact h

theorem defines_iff {s : State} {p : Prog} : s.defines p = true ↔ s.dt.programmes.get p ≠ none := by
  rw [State.defines, Option.isSome_iff_ne_none]

/-! ## PUT_ACCOUNT (R4) -/

theorem checkAccount_iff {f : PutAccount} {a : AccountFields} :
    checkAccount f = some a ↔ f.status = some a.status ∧ Trf.ofNat? f.tariff = some a.tariff ∧
      Prog.ofNat? f.programme = some a.programme ∧ (1 ≤ f.number ∧ f.number ≤ 65535) ∧ a.tariff ≠ .tariff0 ∧
      f.credit ≤ 4294967295 ∧ a.credit = f.credit := by
  simp only [checkAccount, Option.bind_eq_bind, Option.bind_eq_some_iff, Option.ite_none_right_eq_some,
    Option.some.injEq, Bool.and_eq_true, decide_eq_true_eq, within_iff]
  constructor
  · rintro ⟨st, hst, tr, htr, p, hp, ⟨⟨hn, ht⟩, hc⟩, rfl⟩
    exact ⟨hst, htr, hp, hn, ht, hc, rfl⟩
  · rintro ⟨hst, htr, hp, hn, ht, hc, hcredit⟩
    exact ⟨_, hst, _, htr, _, hp, ⟨⟨hn, ht⟩, hc⟩, by rw [← hcredit]⟩

/-- The owner of a PUT_ACCOUNT whose fields are in range. -/
theorem reqPutAccount_eq {w : Work} {f : PutAccount} {a : AccountFields} (h : checkAccount f = some a) :
    w.reqPutAccount (.fields f) =
      if (w.s.dt.tariffs.getTrf a.tariff).isNone || !w.s.defines a.programme then w.say .notFound
      else if !Table.has w.s.dt.accounts f.number && decide (256 ≤ w.s.dt.accounts.length) then w.say .full
      else (w.upd (·.putAccount f.number a)).say .ok := by
  simp only [Work.reqPutAccount, Work.withBody, h]

theorem reqPutAccount_range {w : Work} {f : PutAccount} (h : checkAccount f = none) :
    w.reqPutAccount (.fields f) = w.say .range := by
  simp only [Work.reqPutAccount, Work.withBody, h]

theorem checkAccount_none {f : PutAccount}
    (h : f.number = 0 ∨ 7 < f.tariff ∨ f.tariff = 0 ∨ f.programme = 0 ∨ 12 < f.programme ∨ f.status = none) :
    checkAccount f = none := by
  refine Option.eq_none_iff_forall_ne_some.mpr fun a ha => ?_
  obtain ⟨hst, htr, hp, hn, ht, -, -⟩ := checkAccount_iff.mp ha
  rcases h with h | h | h | h | h | h
  · omega
  · simp [trf_ofNat_none h] at htr
  · rw [h] at htr
    exact ht (Option.some.inj htr).symm
  · simp [prog_ofNat_none (Or.inl h)] at hp
  · simp [prog_ofNat_none (Or.inr h)] at hp
  · simp [h] at hst

/-- A PUT_ACCOUNT that is carried out. -/
theorem accountStored {tag : Byte} {f : PutAccount} {a : AccountFields} {s : State} (hs : LinkReady s)
    (hc : checkAccount f = some a) (ht : s.dt.tariffs.getTrf a.tariff ≠ none)
    (hp : s.dt.programmes.get a.programme ≠ none)
    (hroom : Table.has s.dt.accounts f.number = true ∨ s.dt.accounts.length < 256) :
    exec (.putAccount tag (.fields f)) s = .next ((s.putAccount f.number a).answer ⟨0x82, tag, .ok, .none⟩) := by
  refine exec_done (r := .putAccount (.fields f)) rfl hs ?_ hs.1
  refine (reqPutAccount_eq hc).trans ((if_neg ?_).trans ((if_neg ?_).trans rfl))
  · rw [Bool.or_eq_true, Option.isNone_iff_eq_none, Bool.not_eq_true', ← Bool.not_eq_true, defines_iff]
    exact fun h => h.elim ht (· hp)
  · show ¬ (!Table.has s.dt.accounts f.number && decide (256 ≤ s.dt.accounts.length)) = true
    rw [Bool.and_eq_true, Bool.not_eq_true', decide_eq_true_eq]
    rintro ⟨h1, h2⟩
    rcases hroom with h | h
    · exact absurd (h.symm.trans h1) (by decide)
    · omega

/-- Settles O17. -/
theorem accountPut : Obligations.AccountPut := by
  intro tag f s hs
  refine ⟨fun h => ?range, fun st tr p hn1 hn2 hcr hst htr h0 hp => ?inRange⟩
  case range =>
    exact exec_says (r := .putAccount (.fields f)) rfl hs fun w _ => reqPutAccount_range (checkAccount_none h)
  case inRange =>
    have hc : checkAccount f = some ⟨st, tr, p, f.credit⟩ :=
      checkAccount_iff.mpr ⟨hst, htr, hp, ⟨hn1, hn2⟩, h0, hcr, rfl⟩
    refine ⟨fun h => ?_, fun hdt hdp => ⟨fun hl hfull => ?_, fun hl hroom => ?_, fun a ha => ?_⟩⟩
    · refine exec_says (r := .putAccount (.fields f)) rfl hs fun w hw => (reqPutAccount_eq hc).trans (if_pos ?_)
      rw [hw, Bool.or_eq_true, Option.isNone_iff_eq_none, Bool.not_eq_true', ← Bool.not_eq_true, defines_iff, not_not]
      exact h
    · refine exec_says (r := .putAccount (.fields f)) rfl hs fun w hw =>
        (reqPutAccount_eq hc).trans ((if_neg ?_).trans (if_pos ?_))
      · rw [hw, Bool.or_eq_true, Option.isNone_iff_eq_none, Bool.not_eq_true', ← Bool.not_eq_true, defines_iff]
        exact fun h => h.elim hdt (· hdp)
      · have hhas := has_of_look_none hl
        rw [hw]
        show (!Table.has s.dt.accounts f.number && decide (256 ≤ s.dt.accounts.length)) = true
        rw [hhas, decide_eq_true hfull]
        rfl
    · rw [accountStored hs hc hdt hdp (Or.inr hroom), State.putAccount, State.modTables, hl]
      rfl
    · rw [accountStored hs hc hdt hdp (Or.inl (has_of_look_some (by rw [ha]; exact Option.some_ne_none a))),
        State.putAccount, State.modTables, ha]
      rfl

/-! ## DROP_ACCOUNT (R5) -/

theorem visitsOf_pos {s : State} {n : Nat} : 0 < s.visitsOf n ↔ ∃ e ∈ s.vq.visits, e.2.account = some n := by
  simp [State.visitsOf, List.length_pos_iff_exists_mem]

theorem reqDropAccount_eq {w : Work} {n : Nat} {a : Account} (h1 : 1 ≤ n) (h2 : n ≤ 65535)
    (ha : Table.look w.s.dt.accounts n = some a) :
    w.reqDropAccount (.fields n) =
      if 0 < w.s.visitsOf n ∨ 0 < a.balance then w.say .state else (w.upd (·.dropAccount n)).say .ok := by
  have hw : (!within 1 max16 n) = false := congrArg not (within_iff.mpr ⟨h1, h2⟩)
  simp only [Work.reqDropAccount, Work.withBody, hw, Bool.false_eq_true, if_false, State.account?, ha]

theorem accountDropped : Clause.AccountDropped := by
  intro tag n a s hs h1 h2 ha
  refine ⟨fun hv hb => ?_, fun h => ?_⟩
  · refine exec_done (r := .dropAccount (.fields n)) (v := s.dropAccount n) rfl hs ?_ hs.1
    refine (reqDropAccount_eq h1 h2 ha).trans ((if_neg ?_).trans rfl)
    rintro (h | h)
    · obtain ⟨e, he, hn⟩ := visitsOf_pos.mp h
      exact hv e he hn
    · omega
  · refine exec_says (r := .dropAccount (.fields n)) rfl hs fun w hw =>
      (reqDropAccount_eq h1 h2 (by rw [hw]; exact ha)).trans (if_pos ?_)
    rw [hw, visitsOf_pos]
    exact h

/-! ## Tags (R8, R9) -/

theorem checkTag_iff {f : PutTag} {r : TagRecord} :
    checkTag f = some r ↔ f.role = some r.role ∧ Cls.ofNat? f.cls = some r.cls ∧
      (1 ≤ f.tag ∧ f.tag ≤ 1099511627775) ∧ (1 ≤ f.account ∧ f.account ≤ 65535) ∧ r.account = f.account := by
  simp only [checkTag, Option.bind_eq_bind, Option.bind_eq_some_iff, Option.ite_none_right_eq_some,
    Option.some.injEq, Bool.and_eq_true, within_iff]
  constructor
  · rintro ⟨ro, hro, c, hc, ⟨ht, ha⟩, rfl⟩
    exact ⟨hro, hc, ht, ha, rfl⟩
  · rintro ⟨hro, hc, ht, ha, hacc⟩
    exact ⟨_, hro, _, hc, ⟨ht, ha⟩, by rw [← hacc]⟩

theorem reqPutTag_eq {w : Work} {f : PutTag} {r : TagRecord} (h : checkTag f = some r) :
    w.reqPutTag (.fields f) =
      if !Table.has w.s.dt.accounts r.account then w.say .notFound
      else if !Table.has w.s.dt.tags f.tag && decide (1024 ≤ w.s.dt.tags.length) then w.say .full
      else (w.upd (·.putTag f.tag r)).say .ok := by
  simp only [Work.reqPutTag, Work.withBody, h]

theorem reqDropTag_eq {w : Work} {n : TagNo} (h : n ≠ 0) :
    w.reqDropTag (.fields n) =
      if !Table.has w.s.dt.tags n then w.say .notFound else (w.upd (·.dropTag n)).say .ok := by
  simp only [Work.reqDropTag, Work.withBody, h, if_false]

theorem tagPut {tag : Byte} {s : State} {f : PutTag} {r : TagRecord} (hs : LinkReady s) (hc : checkTag f = some r) :
    (Table.look s.dt.accounts r.account = none →
      exec (.putTag tag (.fields f)) s = .next (s.answer ⟨0x84, tag, .notFound, .none⟩)) ∧
    (Table.look s.dt.accounts r.account ≠ none →
      (Table.look s.dt.tags f.tag = none → 1024 ≤ s.dt.tags.length →
        exec (.putTag tag (.fields f)) s = .next (s.answer ⟨0x84, tag, .full, .none⟩)) ∧
      (Table.look s.dt.tags f.tag ≠ none ∨ s.dt.tags.length < 1024 →
        exec (.putTag tag (.fields f)) s = .next ((s.putTag f.tag r).answer ⟨0x84, tag, .ok, .none⟩))) := by
  refine ⟨fun ha => ?_, fun ha => ?_⟩
  · refine exec_says (r := .putTag (.fields f)) rfl hs fun w hw => (reqPutTag_eq hc).trans (if_pos ?_)
    rw [hw]
    exact congrArg not (has_of_look_none ha)
  · have hacc : ¬ (!Table.has s.dt.accounts r.account) = true := by rw [has_of_look_some ha]; decide
    refine ⟨fun ht hfull => ?_, fun hroom => ?_⟩
    · refine exec_says (r := .putTag (.fields f)) rfl hs fun w hw =>
        (reqPutTag_eq hc).trans ((if_neg ?_).trans (if_pos ?_))
      · rw [hw]
        exact hacc
      · rw [hw]
        exact Bool.and_eq_true_iff.mpr ⟨congrArg not (has_of_look_none ht), decide_eq_true hfull⟩
    · refine exec_done (r := .putTag (.fields f)) (v := s.putTag f.tag r) rfl hs ?_ hs.1
      refine (reqPutTag_eq hc).trans ((if_neg hacc).trans ((if_neg ?_).trans rfl))
      show ¬ (!Table.has s.dt.tags f.tag && decide (1024 ≤ s.dt.tags.length)) = true
      rw [Bool.and_eq_true, Bool.not_eq_true', decide_eq_true_eq]
      rintro ⟨h1, h2⟩
      rcases hroom with h | h
      · exact absurd ((has_of_look_some h).symm.trans h1) (by decide)
      · omega

theorem tagsPutAndDropped : Clause.TagsPutAndDropped := by
  intro tag s hs
  refine ⟨fun f r c ht1 ht2 ha1 ha2 hr hc => ?_, fun n hn => ⟨fun h => ?_, fun h => ?_⟩⟩
  · exact tagPut hs (r := ⟨f.account, r, c⟩) (checkTag_iff.mpr ⟨hr, hc, ⟨ht1, ht2⟩, ⟨ha1, ha2⟩, rfl⟩)
  · refine exec_says (r := .dropTag (.fields n)) rfl hs fun w hw => (reqDropTag_eq hn).trans (if_pos ?_)
    rw [hw]
    exact congrArg not (has_of_look_none h)
  · refine exec_done (r := .dropTag (.fields n)) (v := s.dropTag n) rfl hs ?_ hs.1
    refine (reqDropTag_eq hn).trans ((if_neg ?_).trans rfl)
    show ¬ (!Table.has s.dt.tags n) = true
    rw [has_of_look_some h]
    decide

/-- Settles O18. -/
theorem accountAndTagEntriesDropped : Obligations.AccountAndTagEntriesDropped := ⟨accountDropped, tagsPutAndDropped⟩

/-! ## PUT_PROGRAMME (R13) -/

theorem volumeFits_iff {k : PhaseKind} {v : Nat} :
    volumeFits k v = true ↔ k = .wet ∧ 10 ≤ v ∧ v ≤ 2000 ∨ k = .dry ∧ v = 0 := by
  cases k <;> simp [volumeFits, within]

/-- The check of a phase record accepts the records in range, and gives the record stored for them. -/
theorem checkPhase_iff {f : PhaseBody} {r : PhaseRecord} :
    checkPhase f = some r ↔ PhaseInRange f ∧ PhaseStored f r := by
  simp only [checkPhase, Option.bind_eq_bind, Option.bind_eq_some_iff, Option.ite_none_right_eq_some,
    Option.some.injEq, Bool.and_eq_true, decide_eq_true_eq, within_iff, volumeFits_iff, List.contains_eq_mem,
    List.mem_cons, List.not_mem_nil, or_false]
  constructor
  · rintro ⟨k, hk, sm, hsm, st, hst, cl, hcl, fr, hfr, fi, hfi, hcond, rfl⟩
    obtain ⟨⟨⟨⟨⟨⟨⟨⟨⟨⟨⟨⟨⟨hvol, htl⟩, hcl'⟩, htu⟩, hcap⟩, hrel⟩, hwt⟩, hnd⟩, hno⟩, hnf⟩, hnn⟩, hfs⟩, hsg⟩, hss⟩ := hcond
    refine ⟨⟨hvol.imp (fun ⟨h, hv⟩ => ⟨h ▸ hk, hv⟩) (fun ⟨h, hv⟩ => ⟨h ▸ hk, hv⟩), htl, hcl', htu, hcap, hrel,
      hwt, hnd, hno, hnf, hnn, hfs, ?_, hsg, hss, ?_, ?_, ?_, ?_⟩,
      ⟨hk, rfl, rfl, rfl, rfl, rfl, rfl, rfl, rfl, rfl, rfl, rfl, hsm, rfl, rfl, hst, hcl, hfr, hfi⟩⟩
    · simp [hsm]
    · simp [hst]
    · simp [hcl]
    · simp [hfr]
    · simp [hfi]
  · rintro ⟨⟨hvol, htl, hcl', htu, hcap, hrel, hwt, hnd, hno, hnf, hnn, hfs, -, hsg, hss, -, -, -, -⟩,
      ⟨hk, e1, e2, e3, e4, e5, e6, e7, e8, e9, e10, e11, hsm, e12, e13, hst, hcl, hfr, hfi⟩⟩
    refine ⟨_, hk, _, hsm, _, hst, _, hcl, _, hfr, _, hfi, ?_, ?_⟩
    · rw [hk, Option.some.injEq, Option.some.injEq] at hvol
      exact ⟨⟨⟨⟨⟨⟨⟨⟨⟨⟨⟨⟨⟨hvol, htl⟩, hcl'⟩, htu⟩, hcap⟩, hrel⟩, hwt⟩, hnd⟩, hno⟩, hnf⟩, hnn⟩, hfs⟩, hsg⟩, hss⟩
    · rw [← e1, ← e2, ← e3, ← e4, ← e5, ← e6, ← e7, ← e8, ← e9, ← e10, ← e11, ← e12, ← e13]

theorem checkPhases_iff {l : List PhaseBody} {rs : List PhaseRecord} :
    checkPhases l = some rs ↔ (∀ x ∈ l, PhaseInRange x) ∧ List.Forall₂ PhaseStored l rs := by
  induction l generalizing rs with
  | nil => simp [checkPhases, eq_comm]
  | cons f rest ih =>
    simp only [checkPhases, Option.bind_eq_bind, Option.bind_eq_some_iff, checkPhase_iff, ih, Option.some.injEq,
      List.forall_mem_cons, List.forall₂_cons_left_iff]
    constructor
    · rintro ⟨r, ⟨hr, hs⟩, rs', ⟨hrs, hss⟩, rfl⟩
      exact ⟨⟨hr, hrs⟩, r, rs', hs, hss, rfl⟩
    · rintro ⟨⟨hr, hrs⟩, r, rs', hs, hss, rfl⟩
      exact ⟨r, ⟨hr, hs⟩, rs', ⟨hrs, hss⟩, rfl⟩

/-- A phase record in range is stored. -/
theorem phaseStored_exists {f : PhaseBody} (h : PhaseInRange f) : ∃ r, PhaseStored f r := by
  obtain ⟨hk, -, -, -, -, -, -, -, -, -, -, -, hsm, -, -, hst, hcl, hfr, hfi⟩ := h
  obtain ⟨k, hk⟩ : ∃ k, f.kind = some k := hk.elim (fun h => ⟨_, h.1⟩) (fun h => ⟨_, h.1⟩)
  obtain ⟨sm, hsm⟩ := Option.ne_none_iff_exists'.mp hsm
  obtain ⟨st, hst⟩ := Option.ne_none_iff_exists'.mp hst
  obtain ⟨cl, hcl⟩ := Option.ne_none_iff_exists'.mp hcl
  obtain ⟨fr, hfr⟩ := Option.ne_none_iff_exists'.mp hfr
  obtain ⟨fi, hfi⟩ := Option.ne_none_iff_exists'.mp hfi
  exact ⟨⟨k, _, _, _, _, _, _, _, _, _, _, _, sm, _, _, st, cl, fr, fi⟩, hk, rfl, rfl, rfl, rfl, rfl, rfl, rfl, rfl, rfl,
    rfl, rfl, hsm, rfl, rfl, hst, hcl, hfr, hfi⟩

theorem phasesStored_exists {l : List PhaseBody} (h : ∀ x ∈ l, PhaseInRange x) :
    ∃ rs, List.Forall₂ PhaseStored l rs := by
  induction l with
  | nil => exact ⟨[], .nil⟩
  | cons f rest ih =>
    obtain ⟨hf, hrest⟩ := List.forall_mem_cons.mp h
    obtain ⟨r, hr⟩ := phaseStored_exists hf
    obtain ⟨rs, hrs⟩ := ih hrest
    exact ⟨r :: rs, .cons hr hrs⟩

theorem weights_stored {l : List PhaseBody} {rs : List PhaseRecord} (h : List.Forall₂ PhaseStored l rs) :
    rs.map (·.weight) = l.map (·.weight) := by
  induction h with
  | nil => rfl
  | cons hr _ ih =>
    obtain ⟨-, -, -, -, -, -, -, hw, -⟩ := hr
    rw [List.map_cons, List.map_cons, ih, hw]

theorem checkProgramme_iff {f : PutProgramme} {n : Prog} {p : Programme} :
    checkProgramme f = some (n, p) ↔ Prog.ofNat? f.number = some n ∧ (∀ x ∈ f.phases, PhaseInRange x) ∧
      List.Forall₂ PhaseStored f.phases p.phases ∧ (1 ≤ f.phases.length ∧ f.phases.length ≤ 8) ∧
      f.includedFresh ≤ 20000 ∧ (f.phases.map (·.weight)).sum = 100 ∧ p.includedFresh = f.includedFresh := by
  simp only [checkProgramme, Option.bind_eq_bind, Option.bind_eq_some_iff, Option.ite_none_right_eq_some,
    Option.some.injEq, Bool.and_eq_true, decide_eq_true_eq, within_iff, checkPhases_iff, Prod.mk.injEq]
  constructor
  · rintro ⟨_, hn, rs, ⟨hin, hst⟩, ⟨⟨hlen, hfresh⟩, hsum⟩, rfl, rfl⟩
    rw [weights_stored hst] at hsum
    rw [← hst.length_eq] at hlen
    exact ⟨hn, hin, hst, hlen, hfresh, hsum, rfl⟩
  · rintro ⟨hn, hin, hst, hlen, hfresh, hsum, hincluded⟩
    refine ⟨n, hn, p.phases, ⟨hin, hst⟩, ⟨⟨?_, hfresh⟩, ?_⟩, rfl, by rw [← hincluded]⟩
    · rw [← hst.length_eq]
      exact hlen
    · rw [weights_stored hst]
      exact hsum

/-- Settles O19. -/
theorem programmePut : Obligations.ProgrammePut := by
  intro tag f s hs
  refine ⟨fun h => ?range, fun n hn h1 h8 hfresh hsum hin => ?stored⟩
  case range =>
    have hc : checkProgramme f = none := by
      refine Option.eq_none_iff_forall_ne_some.mpr fun ⟨n, p⟩ hp => ?_
      obtain ⟨hn, hin, -, ⟨hlen1, hlen8⟩, hfresh, hsum, -⟩ := checkProgramme_iff.mp hp
      rcases h with h | h | h | h | h | ⟨x, hx, hbad⟩
      · exact absurd (h.symm.trans hn) (by simp)
      · simp [h] at hlen1
      · omega
      · omega
      · exact h hsum
      · exact hbad (hin x hx)
    refine exec_says (r := .putProgramme (.fields f)) rfl hs fun w _ => ?_
    show w.reqPutProgramme _ = _
    simp only [Work.reqPutProgramme, Work.withBody, hc]
    rfl
  case stored =>
    obtain ⟨rs, hrs⟩ := phasesStored_exists hin
    have hc : checkProgramme f = some (n, ⟨f.includedFresh, rs⟩) :=
      checkProgramme_iff.mpr ⟨hn, hin, hrs, ⟨h1, h8⟩, hfresh, hsum, rfl⟩
    refine ⟨⟨f.includedFresh, rs⟩, rfl, hrs, ?_⟩
    refine exec_done (r := .putProgramme (.fields f)) (v := s.putProgramme n ⟨f.includedFresh, rs⟩) rfl hs ?_ hs.1
    show (Work.mk _ []).reqPutProgramme _ = _
    simp only [Work.reqPutProgramme, Work.withBody, hc]
    rfl

/-! ## PUT_TARIFF (R10) -/

theorem six_all_iff {α : Type} {v : Six α} {p : α → Bool} : v.toList.all p = true ↔ ∀ b, p (v.get b) = true := by
  simp only [Six.toList, List.all_cons, List.all_nil, Bool.and_true, Bool.and_eq_true]
  constructor
  · rintro ⟨h1, h2, h3, h4, h5, h6⟩ b
    cases b <;> assumption
  · exact fun h => ⟨h .bay1, h .bay2, h .bay3, h .bay4, h .bay5, h .bay6⟩

theorem eight_all_iff {α : Type} {v : Eight α} {p : α → Bool} : v.toList.all p = true ↔ ∀ ch, p (v.getCh ch) = true := by
  simp only [Eight.toList, List.all_cons, List.all_nil, Bool.and_true, Bool.and_eq_true]
  constructor
  · rintro ⟨h0, h1, h2, h3, h4, h5, h6, h7⟩ ch
    cases ch <;> assumption
  · exact fun h => ⟨h .ch0, h .ch1, h .ch2, h .ch3, h .ch4, h .ch5, h .ch6, h .ch7⟩

theorem mem_progs (p : Prog) : p ∈ Prog.all := by
  cases p <;> decide

theorem mem_channels (ch : Channel) : ch ∈ Channel.all := by
  cases ch <;> decide

theorem twelve_toList {α : Type} (v : Twelve α) : v.toList = Prog.all.map v.get := rfl

/-- The tiers that a tariff stores. -/
def storedTariff (n : Trf) (f : PutTariff) : Tariff :=
  if n = .tariff0 then ⟨f.prices, f.allowed, f.axleRate, f.freshRate, ⟨0, 0⟩, ⟨0, 0⟩, ⟨0, 0⟩⟩
  else ⟨f.prices, f.allowed, f.axleRate, f.freshRate, f.tier1, f.tier2, f.tier3⟩

theorem checkTariff_eq {f : PutTariff} {n : Trf} (hn : Trf.ofNat? f.number = some n)
    (hp : ∀ p : Prog, f.prices.get p ≤ 1000000) (hb : f.strayBits = false) (ha : f.axleRate ≤ 100000)
    (hf : f.freshRate ≤ 100000) : checkTariff f = if tiersFit n f then some (n, storedTariff n f) else none := by
  have hprices : (f.prices.toList.all fun p => decide (p ≤ 1000000)) = true := by
    rw [twelve_toList, List.all_map, List.all_eq_true]
    exact fun p _ => decide_eq_true (hp p)
  simp only [checkTariff, hn, Option.bind_eq_bind, Option.bind_some, hprices, hb, decide_eq_true ha, decide_eq_true hf,
    Bool.not_false, Bool.and_self, Bool.true_and, storedTariff]
  split
  · split <;> rfl
  · rfl

theorem tiersFit_tariff0 (f : PutTariff) : tiersFit .tariff0 f = true := rfl

theorem tiersFit_iff {n : Trf} {f : PutTariff} (hn : n ≠ .tariff0) :
    tiersFit n f = true ↔ (f.tier1.threshold ≤ 65535 ∧ f.tier1.discount ≤ 50) ∧
      (f.tier2.threshold ≤ 65535 ∧ f.tier2.discount ≤ 50) ∧ (f.tier3.threshold ≤ 65535 ∧ f.tier3.discount ≤ 50) ∧
      f.tier1.threshold < f.tier2.threshold ∧ f.tier2.threshold < f.tier3.threshold := by
  simp only [tiersFit, tierInRange, hn, decide_false, Bool.false_or, Bool.and_eq_true, decide_eq_true_eq, and_assoc]
  rfl

theorem tariffStored {tag : Byte} {f : PutTariff} {n : Trf} {t : Tariff} {s : State} (hs : LinkReady s)
    (hc : checkTariff f = some (n, t)) (ha : ∀ p : Prog, t.allowed.get p = true → s.dt.programmes.get p ≠ none) :
    exec (.putTariff tag (.fields f)) s = .next ((s.putTariff n t).answer ⟨0x86, tag, .ok, .none⟩) := by
  have hdef : s.allowedDefined t = true := by
    rw [State.allowedDefined, List.all_eq_true]
    intro p _
    rw [Bool.or_eq_true, Bool.not_eq_true', defines_iff]
    by_cases hp : t.allowed.get p = true
    · exact Or.inr (ha p hp)
    · exact Or.inl (Bool.eq_false_of_not_eq_true hp)
  refine exec_done (r := .putTariff (.fields f)) (v := s.putTariff n t) rfl hs ?_ hs.1
  show (Work.mk _ []).reqPutTariff _ = _
  simp only [Work.reqPutTariff, Work.withBody, hc]
  exact if_pos hdef

theorem tariffPut : Clause.TariffPut := by
  intro tag f n s hs hn hp hb ha hf hallowed
  have hc := checkTariff_eq hn hp hb ha hf
  refine ⟨?_, fun h0 d1 d2 d3 h12 h23 h3 => ?_, fun h0 h => ?_⟩
  · rintro rfl
    rw [tiersFit_tariff0, if_pos rfl] at hc
    exact tariffStored hs hc hallowed
  · have hfit : tiersFit n f = true :=
      (tiersFit_iff h0).mpr ⟨⟨by omega, d1⟩, ⟨by omega, d2⟩, ⟨h3, d3⟩, h12, h23⟩
    rw [hfit, if_pos rfl, storedTariff, if_neg h0] at hc
    exact tariffStored hs hc hallowed
  · have hfit : ¬ tiersFit n f = true := by
      rw [tiersFit_iff h0]
      omega
    rw [if_neg hfit] at hc
    refine exec_says (r := .putTariff (.fields f)) rfl hs fun w _ => ?_
    show w.reqPutTariff _ = _
    simp only [Work.reqPutTariff, Work.withBody, hc]
    rfl

/-! ## PUT_CLASS (R2) -/

theorem checkClass_eq {f : PutClass} {c : Cls} (hc : Cls.ofNat? f.cls = some c) :
    checkClass f = if (1 ≤ f.length ∧ f.length ≤ 24) ∧ (2 ≤ f.axles ∧ f.axles ≤ 8) ∧ (50 ≤ f.factor ∧ f.factor ≤ 400)
      then some (c, ⟨f.length, f.axles, f.factor⟩) else none := by
  simp only [checkClass, hc, Option.bind_eq_bind, Option.bind_some, Bool.and_eq_true, within_iff, and_assoc]

theorem classPut : Clause.ClassPut := by
  intro tag f c s hs hq hc
  refine ⟨fun l1 l2 a1 a2 f1 f2 => ?_, fun h => ?_⟩
  · have hok := (checkClass_eq hc).trans (if_pos ⟨⟨l1, l2⟩, ⟨a1, a2⟩, f1, f2⟩)
    have ho : (Work.mk (withHeld s [⟨tag, .putClass (.fields f)⟩]) []).owner (.putClass (.fields f)) =
        (⟨withHeld (s.putClass c ⟨f.length, f.axles, f.factor⟩) [⟨tag, .putClass (.fields f)⟩], [.matchPass]⟩,
          .ready .ok .none) := by
      show (Work.mk _ []).reqPutClass _ = _
      simp only [Work.reqPutClass, Work.withBody, hok]
      rfl
    exact exec_settled (r := .putClass (.fields f)) rfl hs ho
      ((settle_done (Work.handle_matchPass_empty (withHeld (s.putClass c _) _) hq)).trans (Work.settle_done _)) hs.1
  · have hno := (checkClass_eq hc).trans (if_neg (by omega))
    refine exec_says (r := .putClass (.fields f)) rfl hs fun w _ => ?_
    show w.reqPutClass _ = _
    simp only [Work.reqPutClass, Work.withBody, hno]
    rfl

/-- Settles O20. -/
theorem tariffAndClassPut : Obligations.TariffAndClassPut := ⟨tariffPut, classPut⟩

/-! ## SET_DEPOT: the check (R15, R16) -/

theorem lanesFit_iff {f : SetDepot} :
    lanesFit f = true ↔ f.debounce ∈ [4, 8, 16, 32, 64, 128] ∧ (30 ≤ f.laneStall ∧ f.laneStall ≤ 600) := by
  rw [lanesFit, Bool.and_eq_true, within_iff, List.contains_eq_mem, decide_eq_true_eq]

theorem baysFit_iff {f : SetDepot} :
    baysFit f = true ↔ (∀ b : Bay, 4 ≤ f.maxSegments.get b ∧ f.maxSegments.get b ≤ 24) ∧
      (∀ b : Bay, 20 ≤ f.lineVolume.get b ∧ f.lineVolume.get b ≤ 400) ∧ (60 ≤ f.callTimeout ∧ f.callTimeout ≤ 900) ∧
      (1 ≤ f.seatingSettle ∧ f.seatingSettle ≤ 10) := by
  simp only [baysFit, Bool.and_eq_true, within_iff, six_all_iff, and_assoc]

theorem supplyFits_iff {f : SetDepot} :
    supplyFits f = true ↔ (2 ≤ f.grantTimeout ∧ f.grantTimeout ≤ 30) ∧ f.startLead ≤ 15 ∧ f.runOn ≤ 300 ∧
      (1200 ≤ f.filterInterval ∧ f.filterInterval ≤ 14400) ∧ (60 ≤ f.purgeDuration ∧ f.purgeDuration ≤ 300) ∧
      (50 ≤ f.purgeVolume ∧ f.purgeVolume ≤ 500) ∧ f.strayCarts = false := by
  simp only [supplyFits, Bool.and_eq_true, within_iff, decide_eq_true_eq, Bool.not_eq_true', and_assoc]

theorem loopFits_iff {f : SetDepot} :
    loopFits f = true ↔ (1000 ≤ f.pitCapacity ∧ f.pitCapacity ≤ 60000) ∧
      (1000 ≤ f.tankCapacity ∧ f.tankCapacity ≤ 60000) ∧ (50 ≤ f.reserveFloor ∧ f.reserveFloor ≤ 10000) ∧
      f.lowMark ≤ 60000 ∧ f.highMark ≤ 60000 ∧ f.carryOff ≤ 200 ∧ f.allowanceThreshold ≤ 1000000 := by
  simp only [loopFits, Bool.and_eq_true, within_iff, decide_eq_true_eq, and_assoc]

theorem frostFits_iff {f : SetDepot} :
    frostFits f = true ↔ (-10 ≤ f.holdThreshold ∧ f.holdThreshold ≤ 10) ∧
      (-20 ≤ f.drainThreshold ∧ f.drainThreshold ≤ 5) ∧ (300 ≤ f.persistTime ∧ f.persistTime ≤ 7200) ∧
      (300 ≤ f.deferralMax ∧ f.deferralMax ≤ 3600) ∧ (1 ≤ f.chargeHold ∧ f.chargeHold ≤ 72) := by
  simp only [frostFits, Bool.and_eq_true, within_iff, withinInt_iff, and_assoc]

theorem probesFit_iff {f : SetDepot} :
    probesFit f = true ↔ ∀ ch : Channel, f.probeSettle.getCh ch ∈ [1, 2, 4, 8] ∧
      (10 ≤ f.probePeriod.getCh ch ∧ f.probePeriod.getCh ch ≤ 600) ∧
      (-100000 ≤ f.calLo.getCh ch ∧ f.calLo.getCh ch ≤ 100000) ∧
      (-100000 ≤ f.calHi.getCh ch ∧ f.calHi.getCh ch ≤ 100000) := by
  simp only [probesFit, Bool.and_eq_true, eight_all_iff, within_iff, withinInt_iff, List.contains_eq_mem,
    decide_eq_true_eq, forall_and, and_assoc]

theorem crossFits_iff {f : SetDepot} :
    crossFits f = true ↔ f.purgeVolume ≤ f.reserveFloor ∧ f.reserveFloor < f.tankCapacity ∧
      f.highMark ≤ f.tankCapacity ∧ f.lowMark < f.pitCapacity ∧ f.drainThreshold < f.holdThreshold ∧
      f.cartMask ≠ ⟨false, false, false, false⟩ ∧ ∀ ch : Channel, f.calLo.getCh ch < f.calHi.getCh ch := by
  simp only [crossFits, Bool.and_eq_true, decide_eq_true_eq, List.all_eq_true, and_assoc]
  simp only [mem_channels, true_implies]

theorem cls_ofNat_some_iff {n : Nat} : (∃ c, Cls.ofNat? n = some c) ↔ 1 ≤ n ∧ n ≤ 8 := by
  constructor
  · rintro ⟨c, hc⟩
    unfold Cls.ofNat? at hc
    split at hc <;> first | omega | cases hc
  · rintro ⟨h1, h2⟩
    interval_cases n <;> exact ⟨_, rfl⟩

/-- The check of a SET_DEPOT body gives the settings it stands for, and only where it is in range. -/
theorem checkDepot_sound {daily : Nat} {f : SetDepot} {n : Settings} (h : checkDepot daily f = some n) :
    DepotInRange f ∧ DepotStored f daily n := by
  simp only [checkDepot, Option.bind_eq_bind, Option.bind_eq_some_iff, Option.ite_none_right_eq_some,
    Option.some.injEq, Bool.and_eq_true, lanesFit_iff, baysFit_iff, supplyFits_iff, loopFits_iff, frostFits_iff,
    probesFit_iff, crossFits_iff] at h
  obtain ⟨ca, hca, cc, hcc, a1, ha1, a2, ha2, ld, hld, fr, hfr, hfits, rfl⟩ := h
  obtain ⟨⟨⟨⟨⟨⟨⟨hdeb, hstall⟩, hbays⟩, hgt, hsl, hro, hfi, hpd, hpv, hsc⟩, hloop⟩, hfrost⟩, hprobes⟩, hcross⟩ := hfits
  refine ⟨⟨⟨?_, cls_ofNat_some_iff.mp ⟨cc, hcc⟩, fun l => by cases l <;> simp [Pair.get, ha1, ha2], hdeb, hstall⟩, hbays,
    ⟨hgt, hsl, hro, hfi, hpd, hpv, hsc, ?_⟩, hloop, ⟨?_, hfrost⟩, hprobes, hcross⟩,
    ⟨hca, hcc, fun l => by cases l <;> assumption, rfl, rfl⟩, ⟨rfl, rfl, rfl, rfl⟩,
    ⟨rfl, rfl, rfl, rfl, rfl, rfl, rfl, hld⟩, ⟨rfl, rfl, rfl, rfl, rfl, rfl, rfl, rfl⟩, ⟨hfr, rfl, rfl, rfl, rfl, rfl⟩,
    rfl, rfl, rfl, rfl⟩
  · simp [hca]
  · simp [hld]
  · simp [hfr]

theorem checkDepot_complete {f : SetDepot} (h : DepotInRange f) (daily : Nat) : ∃ n, checkDepot daily f = some n := by
  obtain ⟨⟨hca, hcc, hax, hdeb, hstall⟩, hbays, ⟨hgt, hsl, hro, hfi, hpd, hpv, hsc, hld⟩, hloop, ⟨hfr, hfrost⟩, hprobes,
    hcross⟩ := h
  obtain ⟨ca, hca⟩ := Option.ne_none_iff_exists'.mp hca
  obtain ⟨cc, hcc⟩ := cls_ofNat_some_iff.mpr hcc
  obtain ⟨a1, ha1⟩ : ∃ a, f.axleMode.p1 = some a := Option.ne_none_iff_exists'.mp (hax .lane1)
  obtain ⟨a2, ha2⟩ : ∃ a, f.axleMode.p2 = some a := Option.ne_none_iff_exists'.mp (hax .lane2)
  obtain ⟨ld, hld⟩ := Option.ne_none_iff_exists'.mp hld
  obtain ⟨fr, hfr⟩ := Option.ne_none_iff_exists'.mp hfr
  have hfits : (lanesFit f && baysFit f && supplyFits f && loopFits f && frostFits f && probesFit f && crossFits f) =
      true := by
    simp only [Bool.and_eq_true]
    exact ⟨⟨⟨⟨⟨⟨lanesFit_iff.mpr ⟨hdeb, hstall⟩, baysFit_iff.mpr hbays⟩,
      supplyFits_iff.mpr ⟨hgt, hsl, hro, hfi, hpd, hpv, hsc⟩⟩, loopFits_iff.mpr hloop⟩, frostFits_iff.mpr hfrost⟩,
      probesFit_iff.mpr hprobes⟩, crossFits_iff.mpr hcross⟩
  simp only [checkDepot, hca, hcc, ha1, ha2, hld, hfr, Option.bind_eq_bind, Option.bind_some, hfits, if_true]
  exact ⟨_, rfl⟩

/-! ## SET_DEPOT: what it brings (R17) -/

/-- The lane record when the settings have been taken. -/
def recounted (old new : Settings) (r : LaneRecord) (l : Lane) : LaneRecord :=
  if old.axleMode.get l = new.axleMode.get l then r else { r with counter := .none }

theorem recount_eq (s : State) (old : Settings) (l : Lane) :
    s.recount old l = { s with gu := s.gu.set l (recounted old s.dt.settings (s.gu.get l) l) } := by
  unfold State.recount recounted
  rw [State.settings_eq]
  split
  · rw [pair_set_get]
  · rfl

theorem chooseIfIdle_eq (s : State) : ∃ q : Sampler, q.readings = s.qs.readings ∧ s.chooseIfIdle = { s with qs := q } := by
  unfold State.chooseIfIdle State.choose
  split
  · split
    case h_1 ch _ => exact ⟨(s.startConversion ch).qs, rfl, rfl⟩
    case h_2 => exact ⟨{ s.qs with converter := .idle }, rfl, rfl⟩
  · exact ⟨s.qs, rfl, rfl⟩

theorem stopPersist_eq (s : State) : s.stopPersist = s.modLoop fun l =>
    { l with persist := if s.dt.settings.autoFrost then l.persist else none } := by
  unfold State.stopPersist
  rw [State.settings_eq]
  split
  · rfl
  · rfl

theorem agePass_empty {s : State} (h : s.cu.ring.entries = []) : s.agePass = s := by
  rw [State.agePass, h]
  rfl

theorem leadChange_same (w : Work) (m : LeadMode) : w.leadChange m m = w := by
  cases m <;> rfl

theorem resetCut_idle {w : Work} {ch : Supply} (h : w.s.sa.channels = ⟨.idle, .idle⟩) : w.resetCut ch = w := by
  have hidle : w.s.channel ch = .idle := by
    rw [State.channel, h]
    cases ch <;> rfl
  unfold Work.resetCut
  rw [hidle]

/-- The state when the settings have been taken, with nothing that the change could move but the lane counters, the
converter, the persist timer and the reclaim pump. -/
def settingsApplied (s : State) (old : Settings) (q : Sampler) (reclaim : Bool) : State :=
  { s with
    gu := ⟨recounted old s.dt.settings s.gu.p1 .lane1, recounted old s.dt.settings s.gu.p2 .lane2⟩
    qs := q
    lm := { s.lm with
      persist := if s.dt.settings.autoFrost then s.lm.persist else none
      reclaim := reclaim } }

theorem recount_both (s : State) (old : Settings) : (s.recount old .lane1).recount old .lane2 = { s with
    gu := ⟨recounted old s.dt.settings s.gu.p1 .lane1, recounted old s.dt.settings s.gu.p2 .lane2⟩ } := by
  rw [recount_eq s, recount_eq]
  rfl

theorem settingsTaken_settle {s : State} {old : Settings} (hlead : old.leadMode = s.dt.settings.leadMode)
    (hq : s.vq.queue = []) (hr : s.sa.requests = Six.all false) (hc : s.sa.channels = ⟨.idle, .idle⟩)
    (he : s.cu.ring.entries = []) :
    ∃ (q : Sampler) (reclaim : Bool), q.readings = s.qs.readings ∧
      ((Work.mk s []).settingsTaken old).settle = settingsApplied s old q reclaim := by
  obtain ⟨q, hreadings, hchosen⟩ := chooseIfIdle_eq ((s.recount old .lane1).recount old .lane2)
  rw [recount_both] at hreadings hchosen
  have hnopurge : (if old.leadMode = .fixed ∧ s.settings.leadMode = .variable then [Task.purgeTest] else []) = [] := by
    refine if_neg ?_
    rintro ⟨h1, h2⟩
    exact absurd (h1.symm.trans (hlead.trans h2)) (by decide)
  have htaken : ∃ reclaim, (Work.mk s []).settingsTaken old =
      ⟨settingsApplied s old q reclaim, [.matchPass, .grantPass]⟩ := by
    unfold Work.settingsTaken
    dsimp only [Work.upd]
    rw [hnopurge, recount_both, State.settings_eq, hlead, leadChange_same,
      resetCut_idle (ch := .supply1) hc, resetCut_idle (ch := .supply2) hc, hchosen, stopPersist_eq, agePass_empty]
    · exact ⟨_, rfl⟩
    · exact he
  obtain ⟨reclaim, htaken⟩ := htaken
  refine ⟨q, reclaim, hreadings, ?_⟩
  rw [htaken, settle_done (Work.handle_matchPass_empty (settingsApplied s old q reclaim) hq),
    settle_done (handle_grantPass_calm (s := settingsApplied s old q reclaim) hr), Work.settle_done]

theorem movesHeldLine_iff {s : State} {t : Settings} :
    s.movesHeldLine t = true ↔
      ∃ b : Bay, (s.bc.get b).lineFilled = true ∧ t.lineVolume.get b ≠ s.dt.settings.lineVolume.get b := by
  simp only [State.movesHeldLine, List.any_eq_true, mem_bays, true_and, Bool.and_eq_true, decide_eq_true_eq]
  rfl

theorem reqSetDepot_eq {w : Work} {f : SetDepot} {n : Settings} (h : checkDepot w.s.settings.dailyAllowance f = some n) :
    w.reqSetDepot (.fields f) =
      if w.s.movesHeldLine n then w.say .state
      else ((w.upd (·.putSettings n)).settingsTaken w.s.settings).say .ok := by
  simp only [Work.reqSetDepot, Work.withBody, h]

/-- Settles O21. -/
theorem depotSet : Obligations.DepotSet := by
  intro tag f s hs
  refine ⟨fun hbad => ?range, fun hin => ?inRange⟩
  case range =>
    have hc : checkDepot s.dt.settings.dailyAllowance f = none :=
      Option.eq_none_iff_forall_ne_some.mpr fun n hn => hbad (checkDepot_sound hn).1
    refine exec_says (r := .setDepot (.fields f)) rfl hs fun w hw => ?_
    have hc' : checkDepot w.s.settings.dailyAllowance f = none := by rw [hw]; exact hc
    show w.reqSetDepot _ = _
    simp only [Work.reqSetDepot, Work.withBody, hc']
    rfl
  case inRange =>
    obtain ⟨n, hn⟩ := checkDepot_complete hin s.dt.settings.dailyAllowance
    obtain ⟨-, hst⟩ := checkDepot_sound hn
    have hstored := hst
    obtain ⟨-, ⟨-, hlines, -, -⟩, ⟨-, -, -, -, -, -, -, hlead⟩, -⟩ := hst
    refine ⟨n, hstored, fun ⟨b, hb, hv⟩ => ?state, fun hkeep hq hr hch he hl => ?stored⟩
    case state =>
      refine exec_says (r := .setDepot (.fields f)) rfl hs fun w hw => ?_
      refine (reqSetDepot_eq (by rw [hw]; exact hn)).trans (if_pos ?_)
      rw [movesHeldLine_iff, hw, hlines]
      exact ⟨b, hb, hv⟩
    case stored =>
      have hstay : ¬ s.movesHeldLine n = true := by
        rw [movesHeldLine_iff, hlines]
        rintro ⟨b, hb, hv⟩
        exact hv (hkeep b hb)
      have ho : (Work.mk (withHeld s [⟨tag, .setDepot (.fields f)⟩]) []).owner (.setDepot (.fields f)) =
          ((Work.mk ((withHeld s [⟨tag, .setDepot (.fields f)⟩]).putSettings n) []).settingsTaken s.dt.settings).say
            .ok := by
        refine (reqSetDepot_eq (w := Work.mk (withHeld s [⟨tag, .setDepot (.fields f)⟩]) []) hn).trans ?_
        exact if_neg hstay
      obtain ⟨q, reclaim, hreadings, hsettle⟩ := settingsTaken_settle
        (s := (withHeld s [⟨tag, .setDepot (.fields f)⟩]).putSettings n) (old := s.dt.settings)
        (Option.some.inj (hl.symm.trans hlead)) hq hr hch he
      refine ⟨_, exec_apart (r := .setDepot (.fields f)) rfl hs ho hsettle rfl, rfl, rfl, rfl, rfl, rfl, rfl, rfl, rfl,
        rfl, rfl, rfl, rfl, rfl, hreadings, fun l => ?_⟩
      have hcounter : ∀ (r : LaneRecord), (recounted s.dt.settings n r l).counter =
          if n.axleMode.get l = s.dt.settings.axleMode.get l then r.counter else .none := by
        intro r
        unfold recounted
        by_cases h : n.axleMode.get l = s.dt.settings.axleMode.get l
        · rw [if_pos h, if_pos h.symm]
        · rw [if_neg h, if_neg fun h' => h h'.symm]
      cases l
      · exact hcounter s.gu.p1
      · exact hcounter s.gu.p2

end Sys2Proof.Proofs.Tables
end

section
/-!
The queries (R6, R43, R61, R62, R86, R121, R157, R202): each owner reads its blocks, and the reply is what it read.
-/

namespace Sys2Proof.Proofs.Queries

open Sys2Proof Sys2Proof.Machine Sys2Proof.Safety Sys2Proof.Proofs.Running Sys2Proof.Proofs.Tables
  Sys2Proof.Proofs.Visits

set_option Elab.async false

/-! ## GET_STATUS, GET_QUEUE and GET_WATER -/

/-- A list of numbers that are all in the table gives an item for each, in order. -/
theorem filterMap_total {α β : Type} {f : α → Option β} {l : List α} (h : ∀ a ∈ l, f a ≠ none) :
    (l.filterMap f).length = l.length ∧
      ∀ (k : Nat) (a : α) (b : β), l[k]? = some a → f a = some b → (l.filterMap f)[k]? = some b := by
  induction l with
  | nil => simp
  | cons x rest ih =>
    obtain ⟨hx, hrest⟩ := List.forall_mem_cons.mp h
    obtain ⟨y, hy⟩ := Option.ne_none_iff_exists'.mp hx
    obtain ⟨hlen, hget⟩ := ih hrest
    rw [List.filterMap_cons_some hy]
    refine ⟨congrArg (· + 1) hlen, fun k a b hk hb => ?_⟩
    cases k with
    | zero =>
      obtain rfl : x = a := by simpa using hk
      simp [← hy, hb]
    | succ k => exact hget k a b hk hb

theorem queuedItem_eq {s : State} {n : Nat} {v : Visit} (h : Table.look s.vq.visits n = some v) :
    s.queuedItem n = some ⟨n, v.cls, v.lane, v.programme, v.noShow⟩ := by
  rw [State.queuedItem, State.visit?, h]
  rfl

theorem calledItem_eq {s : State} {n : Nat} {v : Visit} (h : Table.look s.vq.visits n = some v) :
    s.calledItem n = some ⟨n, v.bay, v.noShow⟩ := by
  rw [State.calledItem, State.visit?, h]
  rfl

/-- Settles O22. -/
theorem statusQueueWaterAnswered : Obligations.StatusQueueWaterAnswered := by
  intro tag s hs
  refine ⟨?status, ⟨rfl, rfl, rfl, rfl, rfl, rfl, rfl, rfl⟩, ?queue, ⟨rfl, fun hq => ?queued, fun hc => ?called⟩, ?water,
    rfl, rfl, rfl, rfl, rfl, rfl, rfl, rfl⟩
  case status =>
    exact exec_done (r := .getStatus (.fields ())) (v := s.modLink fun l => { l with noticesLost := false }) rfl hs rfl
      hs.1
  case queue =>
    exact exec_says (r := .getQueue (.fields ())) rfl hs fun w hw => by
      show (w, ReplyForm.ready .ok (.queue w.s.queueReply)) = _
      rw [hw]
      rfl
  case queued =>
    have hall : ∀ n ∈ s.vq.queue, s.queuedItem n ≠ none := by
      intro n hn
      obtain ⟨v, hv⟩ := Option.ne_none_iff_exists'.mp (hq n hn)
      rw [queuedItem_eq hv]
      exact Option.some_ne_none _
    obtain ⟨hlen, hget⟩ := filterMap_total hall
    exact ⟨hlen, fun k n v hk hv => hget k n _ hk (queuedItem_eq hv)⟩
  case called =>
    have hall : ∀ n ∈ s.vq.called, s.calledItem n ≠ none := by
      intro n hn
      obtain ⟨v, hv⟩ := Option.ne_none_iff_exists'.mp (hc n hn)
      rw [calledItem_eq hv]
      exact Option.some_ne_none _
    obtain ⟨hlen, hget⟩ := filterMap_total hall
    exact ⟨hlen, fun k n v hk hv => hget k n _ hk (calledItem_eq hv)⟩
  case water =>
    exact exec_says (r := .getWater (.fields ())) rfl hs fun w hw => by
      show (w, ReplyForm.ready .ok (.water w.s.waterReply)) = _
      rw [hw]
      rfl

/-! ## GET_BAY, GET_READING and SNAP_LANE -/

theorem channel_ofNat_none {n : Nat} (h : 7 < n) : Channel.ofNat? n = none := by
  unfold Channel.ofNat?
  split <;> first | omega | rfl

theorem lane_ofNat_none {n : Nat} (h : n = 0 ∨ 2 < n) : Lane.ofNat? n = none := by
  unfold Lane.ofNat?
  split <;> first | omega | rfl

theorem reqGetBay_eq {w : Work} {n : Nat} {b : Bay} (h : Bay.ofNat? n = some b) :
    w.reqGetBay (.fields n) = (w.upd (·.useFresh)).ok (.bay (w.s.bayReply b)) := by
  simp only [Work.reqGetBay, Work.withBody, h]

theorem reqGetReading_eq {w : Work} {n : Nat} {ch : Channel} (h : Channel.ofNat? n = some ch) :
    w.reqGetReading (.fields n) = w.ok (.reading (w.s.readingReply ch)) := by
  simp only [Work.reqGetReading, Work.withBody, h]

theorem reqSnapLane_eq {w : Work} {n : Nat} {l : Lane} (h : Lane.ofNat? n = some l) :
    w.reqSnapLane (.fields n) = w.ok (.lane (w.s.laneReply l)) := by
  simp only [Work.reqSnapLane, Work.withBody, h]

/-- Settles O23. -/
theorem bayReadingLaneAnswered : Obligations.BayReadingLaneAnswered := by
  intro tag n s hs
  refine ⟨fun b hb => ⟨?bay, rfl, rfl, rfl, rfl⟩, fun h => ?noBay, fun ch hch => ⟨?reading, rfl, rfl⟩, fun h => ?noChannel,
    fun l hl => ⟨?lane, rfl, rfl, rfl⟩, fun h => ?noLane⟩
  case bay => exact exec_done (r := .getBay (.fields n)) (v := s.useFresh) rfl hs ((reqGetBay_eq hb).trans rfl) hs.1
  case noBay =>
    refine exec_says (r := .getBay (.fields n)) rfl hs fun w _ => ?_
    show w.reqGetBay _ = _
    simp only [Work.reqGetBay, Work.withBody, bay_ofNat_none h]
    rfl
  case reading =>
    refine exec_says (r := .getReading (.fields n)) rfl hs fun w hw => (reqGetReading_eq hch).trans ?_
    rw [hw]
    rfl
  case noChannel =>
    refine exec_says (r := .getReading (.fields n)) rfl hs fun w _ => ?_
    show w.reqGetReading _ = _
    simp only [Work.reqGetReading, Work.withBody, channel_ofNat_none h]
    rfl
  case lane =>
    refine exec_says (r := .snapLane (.fields n)) rfl hs fun w hw => (reqSnapLane_eq hl).trans ?_
    rw [hw]
    rfl
  case noLane =>
    refine exec_says (r := .snapLane (.fields n)) rfl hs fun w _ => ?_
    show w.reqSnapLane _ = _
    simp only [Work.reqSnapLane, Work.withBody, lane_ofNat_none h]
    rfl

/-! ## GET_ACCOUNT (R6) -/

theorem reqGetAccount_absent {w : Work} {n : Nat} (h1 : 1 ≤ n) (h2 : n ≤ 65535)
    (ha : Table.look w.s.dt.accounts n = none) : w.reqGetAccount (.fields n) = w.say .notFound := by
  have hw : (!within 1 max16 n) = false := congrArg not (within_iff.mpr ⟨h1, h2⟩)
  simp only [Work.reqGetAccount, Work.withBody, hw, Bool.false_eq_true, if_false, State.account?, ha]

theorem reqGetAccount_present {w : Work} {n : Nat} {a : Account} (h1 : 1 ≤ n) (h2 : n ≤ 65535)
    (ha : Table.look w.s.dt.accounts n = some a) :
    w.reqGetAccount (.fields n) = w.ok (.account ⟨n, a, a.atLimit, w.s.visitsOf n⟩) := by
  have hw : (!within 1 max16 n) = false := congrArg not (within_iff.mpr ⟨h1, h2⟩)
  simp only [Work.reqGetAccount, Work.withBody, hw, Bool.false_eq_true, if_false, State.account?, ha]

theorem accountAnswered : Clause.AccountAnswered := by
  intro tag n s hs h2
  refine ⟨?_, fun h1 ha => ?_, fun a h1 ha => ?_⟩
  · rintro rfl
    exact exec_says (r := .getAccount (.fields 0)) rfl hs fun w _ => rfl
  · exact exec_says (r := .getAccount (.fields n)) rfl hs fun w hw =>
      reqGetAccount_absent h1 h2 (by rw [hw]; exact ha)
  · refine exec_says (r := .getAccount (.fields n)) rfl hs fun w hw =>
      (reqGetAccount_present h1 h2 (by rw [hw]; exact ha)).trans ?_
    rw [hw]
    rfl

/-! ## GET_VISIT (R61, R210) -/

@[simp] theorem num_length (k n : Nat) : (num k n).length = k := by
  induction k with
  | zero => rfl
  | succ k ih => rw [num, List.length_cons, ih]

/-- The results from the front fit, and one more would not. -/
theorem fitResults_split (room : Nat) (l : List PhaseResult) :
    ∃ left, fitResults room l ++ left = l ∧ ((fitResults room l).flatMap resultBytes).length ≤ room ∧
      ∀ p more, left = p :: more → room < ((fitResults room l).flatMap resultBytes).length + (resultBytes p).length := by
  induction l generalizing room with
  | nil => exact ⟨[], rfl, Nat.zero_le _, fun p more h => by cases h⟩
  | cons p rest ih =>
    rw [fitResults]
    by_cases h : (resultBytes p).length ≤ room
    · obtain ⟨left, hsplit, hfit, hmore⟩ := ih (room - (resultBytes p).length)
      rw [if_pos h]
      refine ⟨left, congrArg (p :: ·) hsplit, ?_, fun q more hq => ?_⟩
      · rw [List.flatMap_cons, List.length_append]
        omega
      · have := hmore q more hq
        rw [List.flatMap_cons, List.length_append]
        omega
    · rw [if_neg h]
      refine ⟨p :: rest, rfl, Nat.zero_le _, fun q more hq => ?_⟩
      obtain ⟨rfl, -⟩ := List.cons.inj hq
      rw [List.flatMap_nil, List.length_nil]
      omega

/-- The reply that gives some of a visit's results. -/
def visitReplyOf (s : State) (n : Nat) (v : Visit) (l : List PhaseResult) : VisitReply :=
  ⟨n, v, v.results.length, l, s.place n v⟩

/-- The bytes of a visit's reply but for its results: result code, head, count, tail. -/
def visitFrame (s : State) (n : Nat) (v : Visit) : Nat :=
  2 + (visitHeadBytes (visitReplyOf s n v [])).length + (visitTailBytes (visitReplyOf s n v [])).length

theorem visitReply_eq (s : State) (n first : Nat) (v : Visit) :
    s.visitReply n first v =
      visitReplyOf s n v (fitResults (240 - visitFrame s n v) (v.results.drop (first - 1))) := rfl

theorem visitReply_length (s : State) (n : Nat) (v : Visit) (l : List PhaseResult) :
    1 + (visitBytes (visitReplyOf s n v l)).length = visitFrame s n v + (l.flatMap resultBytes).length := by
  have hhead : visitHeadBytes (visitReplyOf s n v l) = visitHeadBytes (visitReplyOf s n v []) := rfl
  have htail : visitTailBytes (visitReplyOf s n v l) = visitTailBytes (visitReplyOf s n v []) := rfl
  have hsent : (visitReplyOf s n v l).sent = l := rfl
  rw [visitBytes, counted, hhead, htail, visitFrame, hsent]
  simp only [List.length_append, num_length]
  omega

theorem tagBytes_length (l : List TagNo) : (tagBytes l).length = 1 + 5 * l.length := by
  have : (l.flatMap (num 5)).length = 5 * l.length := by
    induction l with
    | nil => rfl
    | cons t rest ih =>
      rw [List.flatMap_cons, List.length_append, ih, num_length, List.length_cons]
      omega
  rw [tagBytes, counted, List.length_append, num_length, this]

theorem visitFrame_le {s : State} {n : Nat} {v : Visit} (h : v.tags.length ≤ 4) : visitFrame s n v ≤ 240 := by
  simp only [visitFrame, visitHeadBytes, visitTailBytes, visitReplyOf, List.length_append, num_length, tagBytes_length,
    orZero, presence, flag, bayOr0, List.length_cons, List.length_nil]
  omega

theorem reqGetVisit_absent {w : Work} {f : GetVisit} (h0 : f.visit ≠ 0) (h1 : 1 ≤ f.firstPhase)
    (h8 : f.firstPhase ≤ 8) (hv : Table.look w.s.vq.visits f.visit = none) :
    w.reqGetVisit (.fields f) = w.say .notFound := by
  have hw : (!within 1 8 f.firstPhase) = false := congrArg not (within_iff.mpr ⟨h1, h8⟩)
  simp only [Work.reqGetVisit, Work.withBody, hw, h0, decide_false, Bool.or_false, Bool.false_eq_true, if_false,
    State.visit?, hv]

theorem reqGetVisit_present {w : Work} {f : GetVisit} {v : Visit} (h0 : f.visit ≠ 0) (h1 : 1 ≤ f.firstPhase)
    (h8 : f.firstPhase ≤ 8) (hv : Table.look w.s.vq.visits f.visit = some v) :
    w.reqGetVisit (.fields f) = w.ok (.visit (w.s.visitReply f.visit f.firstPhase v)) := by
  have hw : (!within 1 8 f.firstPhase) = false := congrArg not (within_iff.mpr ⟨h1, h8⟩)
  simp only [Work.reqGetVisit, Work.withBody, hw, h0, decide_false, Bool.or_false, Bool.false_eq_true, if_false,
    State.visit?, hv]

theorem visitAnswered : Clause.VisitAnswered := by
  intro tag f s hs
  refine ⟨fun h => ?range, fun h0 h1 h8 hv => ?absent, fun v h0 h1 h8 hv => ?present⟩
  case range =>
    have hbad : (decide (f.visit = 0) || !within 1 8 f.firstPhase) = true := by
      rw [Bool.or_eq_true, decide_eq_true_eq, Bool.not_eq_true', ← Bool.not_eq_true, within_iff]
      omega
    refine exec_says (r := .getVisit (.fields f)) rfl hs fun w _ => ?_
    show w.reqGetVisit _ = _
    simp only [Work.reqGetVisit, Work.withBody, hbad, if_true]
    rfl
  case absent =>
    exact exec_says (r := .getVisit (.fields f)) rfl hs fun w hw =>
      reqGetVisit_absent (by omega) h1 h8 (by rw [hw]; exact hv)
  case present =>
    obtain ⟨left, hsplit, hfit, hmore⟩ :=
      fitResults_split (240 - visitFrame s f.visit v) (v.results.drop (f.firstPhase - 1))
    refine ⟨_, left, visitReplyOf s f.visit v, fun _ => rfl, hsplit, ?_, fun ht => ?_, fun p more hp => ?_⟩
    · refine exec_says (r := .getVisit (.fields f)) rfl hs fun w hw =>
        (reqGetVisit_present (by omega) h1 h8 (by rw [hw]; exact hv)).trans ?_
      rw [hw]
      rfl
    · have := visitFrame_le (s := s) (n := f.visit) ht
      rw [visitReply_length]
      omega
    · have := hmore p more hp
      rw [visitReply_length, List.flatMap_append, List.flatMap_singleton, List.length_append]
      omega

/-- Settles O24. -/
theorem accountAndVisitAnswered : Obligations.AccountAndVisitAnswered := ⟨accountAnswered, visitAnswered⟩

end Sys2Proof.Proofs.Queries
end

section
/-!
The Charge Unit and the clock: accounts settled and closed, collection, posting, price, ageing and the charge day (R178 to
R195, R207, R208).
-/

namespace Sys2Proof.Proofs.ChargeUnit

open Sys2Proof Sys2Proof.Machine Sys2Proof.Safety Sys2Proof.Proofs.Running Sys2Proof.Proofs.Lanes Sys2Proof.Proofs.Tables
  Sys2Proof.Proofs.Queries Sys2Proof.Proofs.Visits

set_option Elab.async false

/-! ## Accounts (R194, R195) -/

theorem reqSettle_eq {w : Work} {f : SettleAccount} {a : Account} (h1 : 1 ≤ f.account) (h2 : f.account ≤ 65535)
    (h3 : 1 ≤ f.amount) (h4 : f.amount ≤ 4294967295) (ha : Table.look w.s.dt.accounts f.account = some a) :
    w.reqSettle (.fields f) =
      (w.upd (·.modTables fun t => { t with accounts := Table.upd t.accounts f.account (·.settle f.amount) })).ok
        (.settled (min f.amount a.balance) (a.settle f.amount).balance (a.settle f.amount).atLimit) := by
  have hin : (!within 1 max16 f.account || !within 1 max32 f.amount) = false := by
    rw [show within 1 max16 f.account = true from within_iff.mpr ⟨h1, h2⟩,
      show within 1 max32 f.amount = true from within_iff.mpr ⟨h3, h4⟩]
    rfl
  simp only [Work.reqSettle, Work.withBody, hin, Bool.false_eq_true, if_false, State.account?, ha]

/-- Settles O31. -/
theorem accountsSettledAndClosed : Obligations.AccountsSettledAndClosed := by
  intro tag s hs
  refine ⟨fun f a h1 h2 h3 h4 ha => ?settle, ?close⟩
  case settle =>
    refine ⟨_, exec_done (r := .settleAccount (.fields f)) (v := s.modTables fun t =>
      { t with accounts := Table.upd t.accounts f.account (·.settle f.amount) }) rfl hs
      ((reqSettle_eq h1 h2 h3 h4 ha).trans rfl) hs.1, rfl, ?_, fun m hm => ?_, rfl⟩
    · show Table.look (Table.upd s.dt.accounts f.account (·.settle f.amount)) f.account = _
      rw [Table.look_upd, if_pos rfl, ha]
      rfl
    · show Table.look (Table.upd s.dt.accounts f.account (·.settle f.amount)) m = _
      rw [Table.look_upd, if_neg hm]
  case close =>
    exact ⟨_, changedPeriods s.dt.accounts, exec_done (r := .closePeriod (.fields ())) (v := s.modTables fun t =>
      { t with accounts := closePeriods t.accounts }) rfl hs rfl hs.1, rfl, rfl, rfl⟩

/-! ## Collection (R187 to R189) -/

theorem entryBytes_length (e : Entry) : (entryBytes (entryCopy e)).length = e.body.size := by
  obtain ⟨q, body, aged, ms, since⟩ := e
  cases body with
  | visit v =>
    show (visitEntryBytes q aged v).length = 48 + 5 * v.tags.length
    delta visitEntryBytes
    simp only [List.length_append, num_length, seqBytes, flag, orZero, tagBytes_length, List.length_cons,
      List.length_nil]
    omega
  | day x d t =>
    show (dayEntryBytes q aged x d t).length = 39
    simp only [dayEntryBytes, List.length_append, num_length, seqBytes, flag, List.length_cons, List.length_nil]

/-- The bytes of some entries. -/
def entriesSize (l : List Entry) : Nat := (l.map (·.body.size)).sum

/-- The entries from the front fit, and one more would not. -/
theorem fitEntries_split (room : Nat) (l : List Entry) :
    ∃ left, fitEntries room l ++ left = l ∧ entriesSize (fitEntries room l) ≤ room ∧
      ∀ e more, left = e :: more → room < entriesSize (fitEntries room l ++ [e]) := by
  induction l generalizing room with
  | nil => exact ⟨[], rfl, Nat.zero_le _, fun e more h => by cases h⟩
  | cons e rest ih =>
    rw [fitEntries]
    by_cases h : e.body.size ≤ room
    · obtain ⟨left, hsplit, hfit, hmore⟩ := ih (room - e.body.size)
      rw [if_pos h]
      refine ⟨left, congrArg (e :: ·) hsplit, ?_, fun x more hx => ?_⟩
      · rw [entriesSize, List.map_cons, List.sum_cons]
        unfold entriesSize at hfit
        omega
      · have := hmore x more hx
        rw [List.cons_append, entriesSize, List.map_cons, List.sum_cons]
        unfold entriesSize at this
        omega
    · rw [if_neg h]
      refine ⟨e :: rest, rfl, Nat.zero_le _, fun x more hx => ?_⟩
      obtain ⟨rfl, -⟩ := List.cons.inj hx
      simp only [entriesSize, List.nil_append, List.map_cons, List.map_nil, List.sum_cons, List.sum_nil]
      omega

/-- The reply that hands out some entries. -/
def chargesReplyOf (s : State) (l : List Entry) : ChargesReply :=
  ⟨l.map entryCopy, s.places, s.cu.ring.entries.length, s.agedCount, s.cu.pendingSummary.isSome,
    s.cu.ring.entries.length - ((s.lp.mark - s.headSeq).toNat + l.length)⟩

theorem chargesReply_length (s : State) (l : List Entry) :
    1 + (ReplyData.charges (chargesReplyOf s l)).bytes.length = 7 + entriesSize l := by
  have hentries : ((l.map entryCopy).flatMap entryBytes).length = entriesSize l := by
    rw [List.length_flatMap, List.map_map]
    exact congrArg List.sum (List.map_congr_left fun e _ => entryBytes_length e)
  simp only [ReplyData.bytes, chargesReplyOf, counted, List.length_append, num_length, flag, List.length_cons,
    List.length_nil, hentries]
  omega

theorem reqTakeCharges_eq {w : Work} {n : Nat} (h1 : 1 ≤ n) (h4 : n ≤ 4) :
    w.reqTakeCharges (.fields n) =
      (w.upd (·.modLink fun l => { l with mark := l.mark + BitVec.ofNat 32 (w.s.takeable n).length })).ok
        (.charges (chargesReplyOf w.s (w.s.takeable n))) := by
  have hin : (!within 1 4 n) = false := congrArg not (within_iff.mpr ⟨h1, h4⟩)
  simp only [Work.reqTakeCharges, Work.withBody, hin, Bool.false_eq_true, if_false]
  rfl

theorem chargesTakenAndRewound : Clause.ChargesTakenAndRewound := by
  intro tag n s hs
  refine ⟨fun h => ?range, fun h1 h4 => ?taken, ?rewound⟩
  case range =>
    have hout : (!within 1 4 n) = true := by
      rw [Bool.not_eq_true', ← Bool.not_eq_true, within_iff]
      omega
    refine exec_says (r := .takeCharges (.fields n)) rfl hs fun w _ => ?_
    show w.reqTakeCharges _ = _
    simp only [Work.reqTakeCharges, Work.withBody, hout, if_true]
    rfl
  case taken =>
    obtain ⟨left, hsplit, hfit, hmore⟩ :=
      fitEntries_split 233 ((s.cu.ring.entries.drop (s.lp.mark - s.headSeq).toNat).take n)
    refine ⟨s.takeable n, left, chargesReplyOf s, fun _ => rfl, hsplit, ?_, ?_, fun e more he => ?_⟩
    · exact exec_done (r := .takeCharges (.fields n)) (v := s.modLink fun l =>
        { l with mark := l.mark + BitVec.ofNat 32 (s.takeable n).length }) rfl hs
        ((reqTakeCharges_eq h1 h4).trans rfl) hs.1
    · rw [chargesReply_length, State.takeable]
      exact Nat.add_le_add_left hfit 7
    · rw [chargesReply_length, State.takeable]
      exact Nat.add_lt_add_left (hmore e more he) 7
  case rewound =>
    exact exec_done (r := .rewindCharges (.fields ())) (v := s.rewindMark) rfl hs rfl hs.1

theorem confirmCount_delivered {s : State} {q : Seq} (h : (q - s.headSeq).toNat < (s.lp.mark - s.headSeq).toNat) :
    s.confirmCount q = some ((q - s.headSeq).toNat + 1) := if_pos h

theorem confirmCount_beyond {s : State} {q : Seq} (h : (s.lp.mark - s.headSeq).toNat ≤ (q - s.headSeq).toNat)
    (hq : (q - s.headSeq).toNat < 2147483648) : s.confirmCount q = none := by
  refine (if_neg (Nat.not_lt.mpr h)).trans (if_neg ?_)
  unfold seqFrom
  generalize s.headSeq = k at hq ⊢
  bv_omega

theorem confirmCount_removed {s : State} {q : Seq} (h : (s.lp.mark - s.headSeq).toNat < 2147483648)
    (hq : 2147483648 ≤ (q - s.headSeq).toNat) : s.confirmCount q = some 0 := by
  refine (if_neg (Nat.not_lt.mpr (by unfold seqFrom State.delivered seqFrom; omega))).trans (if_pos ?_)
  unfold seqFrom
  generalize s.headSeq = k at hq ⊢
  bv_omega

theorem chargesConfirmed : Clause.ChargesConfirmed := by
  intro tag q s hs
  refine ⟨fun h hw hp => ?removed, fun h hq => ?range, fun h hq => ?again⟩
  case removed =>
    have hcount := confirmCount_delivered h
    generalize (q - s.headSeq).toNat = k at hcount ⊢
    have hpending : ∀ l, ((withHeld s l).removeEntries (k + 1)).testPending = withHeld (s.removeEntries (k + 1)) l :=
      fun l => testPending_none hp
    have ho : (Work.mk (withHeld s [⟨tag, .confirmCharges (.fields q)⟩]) []).owner (.confirmCharges (.fields q)) =
        (⟨withHeld (s.removeEntries (k + 1)) [⟨tag, .confirmCharges (.fields q)⟩], [.capacity]⟩, .ready .ok
          (.confirmed (k + 1) (s.removeEntries (k + 1)).headSeq (s.removeEntries (k + 1)).inRing
            (s.removeEntries (k + 1)).agedCount)) := by
      have hcount' : (withHeld s [⟨tag, .confirmCharges (.fields q)⟩]).confirmCount q = some (k + 1) := hcount
      show (Work.mk _ []).reqConfirmCharges _ = _
      simp only [Work.reqConfirmCharges, Work.withBody, hcount', hpending]
      rfl
    have hset := (settle_done (rest := []) (Work.handle_capacity_calm
      (withHeld (s.removeEntries (k + 1)) [⟨tag, .confirmCharges (.fields q)⟩]) hw)).trans (Work.settle_done _)
    have hexec := exec_settled (i := .confirmCharges tag (.fields q)) (r := .confirmCharges (.fields q)) rfl hs ho hset
      hs.1
    refine ⟨_, (s.removeEntries (k + 1)).headSeq, (s.removeEntries (k + 1)).agedCount, hexec, rfl, rfl, ?_, ?_⟩
    · exact (Link.pump_mark _).trans rfl
    · rw [← List.length_drop]
      rfl
  case range =>
    have hcount := confirmCount_beyond h hq
    refine exec_says (r := .confirmCharges (.fields q)) rfl hs fun w hw => ?_
    have hcount' : w.s.confirmCount q = none := by rw [hw]; exact hcount
    show w.reqConfirmCharges _ = _
    simp only [Work.reqConfirmCharges, Work.withBody, hcount']
    rfl
  case again =>
    have hcount := confirmCount_removed h hq
    refine ⟨_, exec_says (r := .confirmCharges (.fields q)) (d := .confirmed 0 s.headSeq s.inRing s.agedCount) rfl hs
      fun w hw => ?_⟩
    have hcount' : w.s.confirmCount q = some 0 := by rw [hw]; exact hcount
    have hreq : w.reqConfirmCharges (.fields q) = w.ok (.confirmed 0 w.s.headSeq w.s.inRing w.s.agedCount) := by
      simp only [Work.reqConfirmCharges, Work.withBody, hcount']
    refine hreq.trans ?_
    rw [hw]
    rfl

/-- Settles O33. -/
theorem chargesCollected : Obligations.ChargesCollected := ⟨chargesTakenAndRewound, chargesConfirmed⟩

/-! ## Posting (R180, R184) -/

/-- With nothing to post no write starts. -/
theorem startWrite_empty {s : State} (h : s.cu.posting = []) : s.startWrite = s := by
  unfold State.startWrite
  rw [h]
  cases s.cu.writing <;> rfl

theorem releaseAnswer_permit {s : State} {v : Visit} (h : v.permit = true) : s.releaseAnswer v = .permit := by
  simp [State.releaseAnswer, h]

/-- The tables when a net has joined an account. -/
def charged (d : DepotTables) (account : Option Nat) (net : Nat) : DepotTables :=
  match account with
  | none => d
  | some n => { d with accounts := Table.upd d.accounts n (·.charge net) }

theorem chargeAccount_eq (s : State) (account : Option Nat) (net : Nat) :
    s.chargeAccount account net = { s with dt := charged s.dt account net } := by
  cases account <;> rfl

theorem look_charged {d : DepotTables} {account : Option Nat} {net m : Nat} {a : Account} (h : account = some m)
    (ha : Table.look d.accounts m = some a) : Table.look (charged d account net).accounts m = some (a.charge net) := by
  subst h
  show Table.look (Table.upd d.accounts m (·.charge net)) m = _
  rw [Table.look_upd, if_pos rfl, ha]
  rfl

/-- The entry that joins the ring for a visit. -/
def postedEntry (s : State) (n : Nat) (v : Visit) (p : Price) : Entry :=
  ⟨s.cu.nextSeq, .visit (s.visitEntry n v p), false, 0, s.now⟩

/-- The state in which a visit is posted. -/
def postedState (s : State) (n : Nat) (v : Visit) (p : Price) : State :=
  { s with
    dt := charged s.dt v.account p.net
    vq := { s.vq with visits := Table.upd s.vq.visits n fun v => { v with posted := some s.cu.nextSeq } }
    cu := { s.cu with
      ring := ⟨s.cu.ring.headSlot, s.cu.ring.entries ++ [postedEntry s n v p]⟩
      nextSeq := s.cu.nextSeq + 1
      reservations := s.cu.reservations - 1
      totals := s.cu.totals.addVisit p
      posting := s.cu.posting.tail
      writing := none } }

theorem postVisit_eq (s : State) (n : Nat) (v : Visit) (p : Price) : s.postVisit n v p = postedState s n v p := by
  simp only [State.postVisit, chargeAccount_eq]
  rfl

theorem completeVisit_permit {s : State} {n : Nat} {v : Visit} {b : Bay} {p : Price} (hp : s.cu.posting = [.visit n])
    (hv : Table.look s.vq.visits n = some v) (hb : v.bay = some b) (hpermit : v.permit = true)
    (hw : (s.bc.get b).wheelStop = true) :
    (Work.mk s []).completeVisit n p =
      ⟨((postedState s n v p).modBay b fun r => { r with releaseHold := true }).notify
        (.chargePosted (.visit s.cu.nextSeq n (some b) v.account p.net .permit (postedState s n v p).places)), []⟩ := by
  have hclear : ((postedState s n v p).bc.get b).clear = false := by
    show (s.bc.get b).clear = false
    simp [BayRecord.clear, hw]
  have hposted : (Work.mk (postedState s n v p) []).posted b v .permit =
      ⟨(postedState s n v p).modBay b fun r => { r with releaseHold := true }, []⟩ := by
    simp only [Work.posted, hclear, Bool.false_eq_true, if_false, or_true, if_true, Work.upd]
  simp only [Work.completeVisit, State.visit?, hv, Work.upd_mk, postVisit_eq, releaseAnswer_permit hpermit, hb, hposted,
    Work.notify]
  exact congrArg (Work.mk · []) (startWrite_empty (congrArg List.tail hp))

theorem execWriteCompletion_eq (s : State) : exec .writeCompletion s = Machine.run s (·.completeWrite) := rfl

/-- Settles O58. -/
theorem chargePosted : Obligations.ChargePosted := by
  intro n v b p s
  rw [execWriteCompletion_eq]
  refine ⟨fun hw => run_of_done ?_, fun hw hp hv hb hpermit hstop => ?_⟩
  · simp only [Work.completeWrite, hw]
  · have hcomplete : (Work.mk s []).completeWrite = (Work.mk s []).completeVisit n p := by
      simp only [Work.completeWrite, hw, hp]
    refine ⟨_, postedEntry s n v p, s.visitEntry n v p,
      run_of_done (hcomplete.trans (completeVisit_permit hp hv hb hpermit hstop)),
      rfl, rfl, rfl, rfl, rfl, rfl, rfl, rfl, rfl, rfl, rfl, congrArg List.tail hp, rfl, rfl, rfl,
      fun m a hm ha => look_charged hm ha, ?_, ?_, ?_, ?_, rfl, rfl, rfl⟩
    · show Table.look (Table.upd s.vq.visits n fun v => { v with posted := some s.cu.nextSeq }) n = _
      rw [Table.look_upd, if_pos rfl, hv]
      rfl
    · exact (congrArg BayRecord.state (Six.get_set_same _ _ _)).trans rfl
    · exact congrArg BayRecord.releaseHold (Six.get_set_same _ _ _)
    · have hplaces : (postedState s n v p).places = s.cu.ring.entries.length + 1 + (s.cu.reservations - 1) :=
        congrArg (· + _) List.length_append
      rw [hplaces]
      rfl

/-! ## The price (R181 to R183) -/

theorem tariffOf_account {s : State} {o : Option Nat} {n : Nat} {a : Account} {tr : Tariff} (ho : o = some n)
    (ha : Table.look s.dt.accounts n = some a) (ht : s.dt.tariffs.getTrf a.tariff = some tr) : s.tariffOf o = tr := by
  simp only [State.tariffOf, ho, Option.bind_some, State.account?, ha, ht, Option.getD_some]

theorem tariffOf_casual {s : State} {tr : Tariff} (ht : s.dt.tariffs.getTrf .tariff0 = some tr) :
    s.tariffOf none = tr := by
  simp only [State.tariffOf, Option.bind_none, ht, Option.getD_some]

/-- The credit of a phase by its kind, cause and water or time (R182). -/
theorem phaseCredit_cases (b : Nat) (r : PhaseResult) :
    (r.kind = .wet → r.cause = .skipped → phaseCredit b r = b * r.weight / 100) ∧
    (r.kind = .wet → r.cause ≠ .skipped → r.fresh + r.recycled < r.volume →
      phaseCredit b r = b * r.weight * (r.volume - (r.fresh + r.recycled)) / (100 * r.volume)) ∧
    (r.kind = .wet → r.cause ≠ .skipped → r.volume ≤ r.fresh + r.recycled → phaseCredit b r = 0) ∧
    (r.kind = .dry → r.running < 10 * r.timeLimit →
      phaseCredit b r = b * r.weight * (10 * r.timeLimit - r.running) / (100 * 10 * r.timeLimit)) ∧
    (r.kind = .dry → 10 * r.timeLimit ≤ r.running → phaseCredit b r = 0) := by
  refine ⟨fun hk hc => ?_, fun hk hc hv => ?_, fun hk hc hv => ?_, fun hk ht => ?_, fun hk ht => ?_⟩
  · simp only [phaseCredit, hk, hc, if_true]
  · simp only [phaseCredit, hk, hc, if_false, hv, if_true]
  · simp only [phaseCredit, hk, hc, if_false, Nat.not_lt.mpr hv]
  · simp only [phaseCredit, hk, Nat.mul_comm r.timeLimit 10, ht, if_true]
  · simp only [phaseCredit, hk, Nat.mul_comm r.timeLimit 10, Nat.not_lt.mpr ht, if_false]

/-- The tier that the period visits reach (R183). -/
theorem tierDiscount_cases (t : Tariff) (k : Nat) :
    (t.tier3.threshold ≤ k → tierDiscount t k = t.tier3.discount) ∧
    (k < t.tier3.threshold → t.tier2.threshold ≤ k → tierDiscount t k = t.tier2.discount) ∧
    (k < t.tier3.threshold → k < t.tier2.threshold → t.tier1.threshold ≤ k → tierDiscount t k = t.tier1.discount) ∧
    (k < t.tier3.threshold → k < t.tier2.threshold → k < t.tier1.threshold → tierDiscount t k = 0) := by
  refine ⟨fun h => if_pos h, fun h3 h2 => ?_, fun h3 h2 h1 => ?_, fun h3 h2 h1 => ?_⟩
  · exact (if_neg (Nat.not_le.mpr h3)).trans (if_pos h2)
  · exact (if_neg (Nat.not_le.mpr h3)).trans ((if_neg (Nat.not_le.mpr h2)).trans (if_pos h1))
  · exact (if_neg (Nat.not_le.mpr h3)).trans ((if_neg (Nat.not_le.mpr h2)).trans (if_neg (Nat.not_le.mpr h1)))

/-- Settles O59. -/
theorem priceComputed : Obligations.PriceComputed := by
  intro s v
  have hcredit : (s.price v).credit =
      visitCredit (s.price v).base (s.price v).axleCharge (s.price v).waterCharge v.results := rfl
  refine ⟨rfl, fun n hn => ⟨?_, ?_⟩, fun hn => ⟨?_, ?_⟩, rfl, rfl, fun included hsome hnone => ?_, fun hf => ?_,
    fun hr => ?_, fun hr => ⟨phaseCredit (s.price v).base, ?_, phaseCredit_cases _⟩,
    fun n a tr hv ha ht => ⟨tierDiscount tr a.periodVisits, ?_, tierDiscount_cases _ _⟩, fun hv => ?_,
    fun n a tr hv ha ht => tariffOf_account hv ha ht, fun tr hv ht => ?_, rfl⟩
  · simp only [State.price, hn, Option.getD_some]
  · simp only [State.price, hn, Option.getD_some]
  · simp only [State.price, hn, Option.getD_none, Nat.sub_self, Nat.mul_zero]
  · simp only [State.price, hn, Option.getD_none]
  · have hincluded : included = match s.dt.programmes.get v.programme with
        | some p => p.includedFresh
        | none => 0 := by
      split
      · exact hsome _ ‹_›
      · exact hnone ‹_›
    rw [hincluded]
    rfl
  · have : (s.price v).waterCharge = (s.tariffOf v.account).freshRate * ceilDiv ((s.price v).fresh - _) 100 := rfl
    rw [this, hf, Nat.zero_sub]
    exact Nat.mul_zero _
  · have hall : (s.price v).credit = (s.price v).base + (s.price v).axleCharge + (s.price v).waterCharge := by
      rw [hcredit, hr]
      rfl
    have hnet : (s.price v).net = (s.price v).base + (s.price v).axleCharge + (s.price v).waterCharge -
      (s.price v).credit - (s.price v).discount := rfl
    exact ⟨hall, by omega⟩
  · rw [hcredit, visitCredit, if_neg (by simpa using hr)]
  · have htariff := tariffOf_account hv ha ht
    simp only [State.price, htariff]
    simp only [hv, Option.bind_some, State.account?, ha]
    rfl
  · simp only [State.price, hv, Option.bind_none, Nat.mul_zero]
    rfl
  · rw [hv]
    exact tariffOf_casual ht

/-! ## Ageing (R190) -/

theorem entryAges : Clause.EntryAges := by
  intro q e s
  have exec_ageing : exec (.ageing q) s = execAgeing q s := rfl
  rw [exec_ageing, execAgeing]
  refine ⟨fun h => ?_, fun h => ?_⟩
  · have hnone : (s.cu.ring.entries.find? fun x => decide (x.seq = q) && !x.aged) = none := by
      rw [List.find?_eq_none]
      intro x hx
      rw [Bool.and_eq_true, decide_eq_true_eq, Bool.not_eq_true']
      rintro ⟨hq, ha⟩
      exact absurd ((h x hx hq).symm.trans ha) (by decide)
    rw [hnone]
  · have hq : e.seq = q := by
      have hfound := List.find?_some h
      rw [Bool.and_eq_true, decide_eq_true_eq] at hfound
      exact hfound.1
    rw [h]
    dsimp only
    rw [run_upd]
    refine ⟨_, overdueNotice e _, rfl, rfl, ?_, rfl, rfl, rfl, rfl, ?_, rfl, rfl, rfl, rfl⟩
    · show markAged e.seq s.cu.ring.entries = _
      rw [hq]
      rfl
    · rw [← hq, overdueNotice]
      cases e.body <;> rfl

/-! ## The charge day (R192) -/

/-- What the start of a write can change: the visits, and the write in progress, which stands where one stood, and is
the summary's where a summary is first. -/
theorem startWrite_eq (s : State) : ∃ (visits : Table Visit) (writing : Option Writing),
    s.startWrite = { s with
      vq := { s.vq with visits := visits }
      cu := { s.cu with writing := writing } } ∧
    (s.cu.writing ≠ none → writing = s.cu.writing) ∧
    (∀ x rest, s.cu.writing = none → s.cu.posting = .summary x :: rest → writing = some .summary) := by
  have stays : s = { s with
      vq := { s.vq with visits := s.vq.visits }
      cu := { s.cu with writing := s.cu.writing } } := rfl
  unfold State.startWrite
  split
  case h_1 n rest hw hp =>
    split
    case h_1 v hv =>
      refine ⟨_, some (.visit (s.price v)), rfl, fun h => absurd hw h, fun x l _ hl => ?_⟩
      rw [hp] at hl
      cases hl
    case h_2 =>
      refine ⟨_, _, stays, fun _ => rfl, fun x l _ hl => ?_⟩
      rw [hp] at hl
      cases hl
  case h_2 x rest hw hp => exact ⟨s.vq.visits, some .summary, rfl, fun h => absurd hw h, fun _ _ _ _ => rfl⟩
  case h_3 hvisit hsummary => exact ⟨_, _, stays, fun _ => rfl, fun x l hw hl => absurd hl (hsummary x l hw)⟩

theorem summaryMayJoin_iff {s : State} :
    s.summaryMayJoin = true ↔ (∀ y, PostItem.summary y ∉ s.cu.posting) ∧ s.places ≤ 62 := by
  rw [State.summaryMayJoin, Bool.and_eq_true, decide_eq_true_eq, Bool.not_eq_true', List.any_eq_false]
  refine and_congr_left fun _ => ⟨fun h y hy => h _ hy rfl, fun h x hx => ?_⟩
  cases x with
  | visit n => exact Bool.false_ne_true
  | summary y => exact absurd hx (h y)

/-- The state in which a charge day has closed, its summary pending. -/
def dayEnded (s : State) (ended : Nat) : State :=
  s.modCharges fun c =>
    { c with
      firstDay := dayAfter ended
      totals := noCounts
      pendingSummary := some (s.closingSummary ended) }

theorem closeDay_eq (s : State) (ended : Nat) : ∃ (visits : Table Visit) (cu : Charges) (nt : DayClosedNotice),
    s.closeDay ended = ({ s with
      vq := { s.vq with visits := visits }
      cu := cu } : State).notify (.dayClosed nt) ∧ cu.firstDay = dayAfter ended ∧
    ∀ u t : State, u.cu = s.cu → u.clock.day = ended → t.cu = cu → DayClosed u t nt := by
  have hfirst : ∀ u : State, u.cu = s.cu → u.clock.day = ended →
      (u.cu.pendingSummary = none → s.closingSummary ended = ⟨u.cu.firstDay, u.clock.day, u.cu.totals⟩) ∧
      (∀ y, u.cu.pendingSummary = some y →
        s.closingSummary ended = ⟨y.first, u.clock.day, y.counts.add u.cu.totals⟩) := by
    rintro u hu rfl
    rw [hu]
    refine ⟨fun h => ?_, fun y h => ?_⟩ <;> simp only [State.closingSummary, h]
  have hlast : (s.closingSummary ended).last = ended := by
    unfold State.closingSummary
    split <;> rfl
  by_cases hjoin : s.summaryMayJoin = true
  case pos =>
    obtain ⟨visits, writing, hwrite, hkeeps, hstarts⟩ := startWrite_eq ((dayEnded s ended).modCharges fun c =>
      { c with
        posting := c.posting ++ [.summary (s.closingSummary ended)]
        pendingSummary := none })
    refine ⟨visits, { s.cu with
      firstDay := dayAfter ended
      totals := noCounts
      posting := s.cu.posting ++ [.summary (s.closingSummary ended)]
      pendingSummary := none
      writing := writing }, ⟨ended, (s.closingSummary ended).first, (s.closingSummary ended).last, true, s.places⟩, ?_,
      rfl, fun u t hu hd ht => ?_⟩
    · have hclose : s.closeDay ended = ((dayEnded s ended).joinSummary (s.closingSummary ended)).notify
          (.dayClosed ⟨ended, (s.closingSummary ended).first, (s.closingSummary ended).last, true,
            ((dayEnded s ended).joinSummary (s.closingSummary ended)).places⟩) := by
        have hjoin' : (dayEnded s ended).summaryMayJoin = true := hjoin
        unfold dayEnded at hjoin'
        simp only [State.closeDay, hjoin', if_true]
        rfl
      rw [hclose, State.joinSummary, hwrite]
      rfl
    · obtain ⟨hnone, hsome⟩ := hfirst u hu hd
      have hplaces : u.places = s.places := by rw [State.places, hu]; rfl
      obtain ⟨hall, h62⟩ := summaryMayJoin_iff.mp hjoin
      refine ⟨s.closingSummary ended, hnone, hsome, fun _ _ => ?_, fun h => ?_, hd.symm, rfl, hlast.trans hd.symm,
        hplaces.symm, ?_⟩
      · rw [ht, hu]
        exact ⟨rfl, rfl, rfl, fun hp hw => hstarts _ [] hw (congrArg (· ++ [_]) hp), hkeeps⟩
      · rcases h with ⟨y, hy⟩ | h
        · rw [hu] at hy
          exact absurd hy (hall y)
        · omega
      · rw [ht, hu]
        exact ⟨rfl, rfl, rfl, rfl⟩
  case neg =>
    refine ⟨s.vq.visits, (dayEnded s ended).cu, ⟨ended, (s.closingSummary ended).first, (s.closingSummary ended).last,
      false, s.places⟩, ?_, rfl, fun u t hu hd ht => ?_⟩
    · have hjoin' : (dayEnded s ended).summaryMayJoin = false := Bool.eq_false_of_not_eq_true hjoin
      unfold dayEnded at hjoin'
      simp only [State.closeDay, hjoin', Bool.false_eq_true, if_false]
      rfl
    · obtain ⟨hnone, hsome⟩ := hfirst u hu hd
      have hplaces : u.places = s.places := by rw [State.places, hu]; rfl
      refine ⟨s.closingSummary ended, hnone, hsome, fun h h62 => ?_, fun _ => ?_, hd.symm, rfl, hlast.trans hd.symm,
        hplaces.symm, ?_⟩
      · rw [hu] at h
        rw [hplaces] at h62
        exact absurd (summaryMayJoin_iff.mpr ⟨h, h62⟩) hjoin
      · rw [ht, hu]
        exact ⟨rfl, rfl, rfl, rfl⟩
      · rw [ht, hu]
        exact ⟨rfl, rfl, rfl, rfl⟩

/-! ## The clock (R207, R208) -/

theorem reqSetClock_range {w : Work} {f : SetClock} (h : 86399 < f.time ∨ 65535 < f.day ∨
    (2 ≤ daysForward w.s.clock.day f.day ∧ daysForward w.s.clock.day f.day ≤ 32767)) :
    w.reqSetClock (.fields f) = w.say .range := by
  simp only [Work.reqSetClock, Work.withBody]
  exact if_pos h

theorem reqSetClock_set {w : Work} {f : SetClock} (h : ¬ (86399 < f.time ∨ 65535 < f.day ∨
    (2 ≤ daysForward w.s.clock.day f.day ∧ daysForward w.s.clock.day f.day ≤ 32767))) :
    w.reqSetClock (.fields f) =
      (w.upd fun s => (if daysForward s.clock.day f.day = 1 then s.midnight s.clock.day else s).setClock f.day f.time).ok
        (.clock ⟨w.s.clock.day, w.s.clock.time, f.day, f.time, decide (daysForward w.s.clock.day f.day = 1)⟩) := by
  simp only [Work.reqSetClock, Work.withBody]
  exact if_neg h

theorem midnight_eq (s : State) (ended : Nat) : ∃ (visits : Table Visit) (cu : Charges) (nt : DayClosedNotice),
    s.midnight ended = ({ s with
      bu := { s.bu with usedToday := 0 }
      vq := { s.vq with visits := visits }
      cu := cu } : State).notify (.dayClosed nt) ∧ cu.firstDay = dayAfter ended ∧
    ∀ u t : State, u.cu = s.cu → u.clock.day = ended → t.cu = cu → DayClosed u t nt :=
  closeDay_eq s.allowanceMidnight ended

theorem clockSet : Clause.ClockSet := by
  intro tag f s hs hday hclock
  have hdays : daysForward s.clock.day f.day = (f.day + 65536 - s.clock.day) % 65536 := rfl
  refine ⟨fun h => ?range, fun ht h => ?set, fun ht h => ?midnight⟩
  case range =>
    refine exec_says (r := .setClock (.fields f)) rfl hs fun w hw => reqSetClock_range ?_
    rw [hw]
    exact h.imp_right Or.inr
  case set =>
    have hn : daysForward s.clock.day f.day ≠ 1 := by omega
    have ho := reqSetClock_set (w := Work.mk (withHeld s [⟨tag, .setClock (.fields f)⟩]) []) (f := f)
      (show ¬ (_ ∨ _ ∨ (2 ≤ daysForward s.clock.day f.day ∧ daysForward s.clock.day f.day ≤ 32767)) by omega)
    have ho' : (Work.mk (withHeld s [⟨tag, .setClock (.fields f)⟩]) []).owner (.setClock (.fields f)) =
        (⟨withHeld (s.setClock f.day f.time) [⟨tag, .setClock (.fields f)⟩], []⟩,
          .ready .ok (.clock ⟨s.clock.day, s.clock.time, f.day, f.time, false⟩)) := by
      refine ho.trans ?_
      have hn' : daysForward (withHeld s [⟨tag, .setClock (.fields f)⟩]).clock.day f.day ≠ 1 := hn
      simp only [Work.upd, hn', if_false, decide_false]
      rfl
    exact exec_done (r := .setClock (.fields f)) rfl hs ho' hs.1
  case midnight =>
    have hn : daysForward s.clock.day f.day = 1 := h
    obtain ⟨visits, cu, nt, hmid, hfirst, hclosed⟩ :=
      midnight_eq (withHeld s [⟨tag, .setClock (.fields f)⟩]) s.clock.day
    have ho := reqSetClock_set (w := Work.mk (withHeld s [⟨tag, .setClock (.fields f)⟩]) []) (f := f)
      (show ¬ (_ ∨ _ ∨ (2 ≤ daysForward s.clock.day f.day ∧ daysForward s.clock.day f.day ≤ 32767)) by omega)
    have ho' : (Work.mk (withHeld s [⟨tag, .setClock (.fields f)⟩]) []).owner (.setClock (.fields f)) =
        (⟨withHeld ((({ s with
            bu := { s.bu with usedToday := 0 }
            vq := { s.vq with visits := visits }
            cu := cu } : State).notify (.dayClosed nt)).setClock f.day f.time) [⟨tag, .setClock (.fields f)⟩], []⟩,
          .ready .ok (.clock ⟨s.clock.day, s.clock.time, f.day, f.time, true⟩)) := by
      refine ho.trans ?_
      have hn' : daysForward (withHeld s [⟨tag, .setClock (.fields f)⟩]).clock.day f.day = 1 := hn
      have hcommute := notify_withHeld ({ s with
        bu := { s.bu with usedToday := 0 }
        vq := { s.vq with visits := visits }
        cu := cu } : State) [⟨tag, .setClock (.fields f)⟩] (.dayClosed nt)
      have hset : ((withHeld s [⟨tag, .setClock (.fields f)⟩]).midnight s.clock.day).setClock f.day f.time =
          withHeld ((({ s with
            bu := { s.bu with usedToday := 0 }
            vq := { s.vq with visits := visits }
            cu := cu } : State).notify (.dayClosed nt)).setClock f.day f.time) [⟨tag, .setClock (.fields f)⟩] := by
        rw [hmid]
        exact congrArg (State.setClock · f.day f.time) hcommute
      simp only [Work.upd, hn', if_true, decide_true]
      exact congrArg (fun u => ((Work.mk u []).ok (.clock ⟨s.clock.day, s.clock.time, f.day, f.time, true⟩))) hset
    have hafter : dayAfter s.clock.day = f.day := by
      unfold dayAfter
      split <;> omega
    refine ⟨_, nt, exec_done (r := .setClock (.fields f)) rfl hs ho' ((notify_holding _ _).trans hs.1), rfl, rfl,
      hclosed s _ rfl rfl rfl, hfirst.trans hafter, rfl, rfl, rfl, rfl, rfl, rfl, rfl, rfl, rfl, rfl⟩

theorem clockAdvances : Clause.ClockAdvances := by
  intro s
  have exec_clockSecond : exec .clockSecond s = .next (s.reach (s.clock.secondBase + 1000)).tick := run_upd _ _
  rw [exec_clockSecond]
  refine ⟨fun h => ?_, fun h => ?_⟩
  · exact congrArg Host.Outcome.next (if_pos h)
  · obtain ⟨visits, cu, nt, hmid, hfirst, hclosed⟩ := midnight_eq ({ s with
      now := max s.now (s.clock.secondBase + 1000)
      clock := ⟨dayAfter s.clock.day, 0, s.clock.secondBase + 1000⟩ } : State) s.clock.day
    have htick : (s.reach (s.clock.secondBase + 1000)).tick = _ := (if_neg (Nat.not_lt.mpr h)).trans hmid
    rw [htick]
    exact ⟨_, nt, rfl, rfl, rfl, hclosed s _ rfl rfl rfl, hfirst, rfl, rfl, rfl, rfl, rfl, rfl, rfl, rfl, rfl, rfl⟩

/-- Settles O60. -/
theorem ageingAndClock : Obligations.AgeingAndClock := ⟨entryAges, clockSet, clockAdvances⟩

end Sys2Proof.Proofs.ChargeUnit
end

section
/-!
The figures: the fraction of a parameter and the split of a plan (R123 to R131), calibration and compensation (R109,
R110), the derived figures of the supply (R139) and the next cartridge (R148).
-/

namespace Sys2Proof.Proofs.Figures

open Sys2Proof Sys2Proof.Machine Sys2Proof.Safety

set_option Elab.async false

/-! ## The fraction of a parameter (R127) -/

theorem fraction_within {limit : Nat} {xr xf : Int} (h : xr ≤ limit) : fraction limit xr xf = 1000 := if_pos h

theorem fraction_none {limit : Nat} {xr xf : Int} (hr : (limit : Int) < xr) (hf : (limit : Int) ≤ xf) :
    fraction limit xr xf = 0 := (if_neg (Int.not_le.mpr hr)).trans (if_pos hf)

theorem fraction_between {limit : Nat} {xr xf : Int} (hr : (limit : Int) < xr) (hf : xf < limit) :
    (fraction limit xr xf : Int) = 1000 * (limit - xf) / (xr - xf) := by
  have hval : fraction limit xr xf = (1000 * (limit - xf) / (xr - xf)).toNat :=
    (if_neg (Int.not_le.mpr hr)).trans (if_neg (Int.not_le.mpr hf))
  rw [hval]
  exact Int.toNat_of_nonneg (Int.ediv_nonneg (by omega) (by omega))

theorem fractionKeepsLimit : Clause.FractionKeepsLimit := by
  intro limit xr xf
  refine ⟨fraction_within, fraction_none, fun hr hf => ⟨fraction_between hr hf, ?_, ?_⟩, fun k hk hk' => ?_⟩
  · have hlt : 1000 * (limit - xf) / (xr - xf) < 1000 := Int.ediv_lt_of_lt_mul (by omega) (by linarith)
    have := fraction_between hr hf
    omega
  · have hmul := Int.ediv_mul_le (1000 * (limit - xf)) (show xr - xf ≠ 0 by omega)
    rw [← fraction_between hr hf] at hmul
    linarith
  · rcases Int.lt_or_le (limit : Int) xr with hr | hr
    · rcases Int.lt_or_le xf limit with hf | hf
      · have hfloor := Int.lt_ediv_add_one_mul_self (1000 * (limit - xf)) (show 0 < xr - xf by omega)
        rw [← fraction_between hr hf] at hfloor
        have hstep : (fraction limit xr xf : Int) + 1 ≤ k := by omega
        have := mul_le_mul_of_nonneg_right hstep (show 0 ≤ xr - xf by omega)
        linarith
      · have hpos : (1 : Int) ≤ k := by omega
        have h1 := mul_le_mul_of_nonneg_left (show (limit : Int) + 1 ≤ xr by omega) (show (0 : Int) ≤ k by omega)
        have h2 := mul_le_mul_of_nonneg_left hf (show (0 : Int) ≤ 1000 - k by omega)
        linarith
    · rw [fraction_within hr] at hk
      omega

/-! ## The split of the volume (R128 to R130) -/

/-- The recycled share before the fresh allowance is looked at. -/
def recycledShare (v r avail : Nat) : Nat := min (v * r / 1000) avail

theorem splitVolume_eq (v r avail a : Nat) :
    splitVolume v r avail a =
      if a < v - recycledShare v r avail then
        if v * a / (v - recycledShare v r avail) < 10 then
          ⟨⟨r, v * a / (v - recycledShare v r avail), 0, 0⟩, decide (avail < v * r / 1000), true⟩
        else ⟨⟨r, v * a / (v - recycledShare v r avail), a, v * a / (v - recycledShare v r avail) - a⟩,
          decide (avail < v * r / 1000), true⟩
      else ⟨⟨r, v, v - recycledShare v r avail, recycledShare v r avail⟩, decide (avail < v * r / 1000), false⟩ := by
  have hshare : (if decide (avail < v * r / 1000) = true then avail else v * r / 1000) = recycledShare v r avail := by
    unfold recycledShare
    by_cases h : avail < v * r / 1000
    · rw [if_pos (decide_eq_true h), Nat.min_eq_right h.le]
    · rw [if_neg (by simpa using h), Nat.min_eq_left (Nat.not_lt.mp h)]
  simp only [splitVolume, hshare]

theorem recycledShare_le {v r avail : Nat} (hr : r ≤ 1000) : recycledShare v r avail ≤ v := by
  refine (Nat.min_le_left _ _).trans (Nat.div_le_of_le_mul ?_)
  rw [Nat.mul_comm 1000]
  exact Nat.mul_le_mul_left v hr

theorem recycledShare_mul_le (v r avail : Nat) : recycledShare v r avail * 1000 ≤ r * v := by
  calc recycledShare v r avail * 1000 ≤ v * r / 1000 * 1000 := Nat.mul_le_mul_right _ (Nat.min_le_left _ _)
    _ ≤ v * r := Nat.div_mul_le_self _ _
    _ = r * v := Nat.mul_comm _ _

/-- What stages 5 to 7 make of a volume of 10 L or more, the plan running. -/
structure SplitFits (v r avail a : Nat) (sp : Split) : Prop where
  fraction : sp.figures.r = r
  lowRec : sp.lowRec = true ↔ avail < v * r / 1000
  short : sp.short = true ↔ a < v - min (v * r / 1000) avail
  whole : sp.short = false → sp.figures.volume = v ∧ sp.figures.recycled = min (v * r / 1000) avail
  scaled : sp.short = true → sp.figures.volume = v * a / (v - min (v * r / 1000) avail) ∧ sp.figures.fresh = a
  sum : sp.figures.fresh + sp.figures.recycled = sp.figures.volume
  volume : sp.figures.volume ≤ v
  share : sp.figures.recycled * 1000 ≤ sp.figures.r * sp.figures.volume
  fresh : sp.figures.fresh ≤ a
  recycled : sp.figures.recycled ≤ avail

/-- A volume scaled to the allowance keeps the fraction, and needs no more recycled water than the share. -/
theorem scaled_keeps {v r a vr vf : Nat} (hr : r ≤ 1000) (hv : vf + vr = v) (ha : a < vf) (hvr : vr * 1000 ≤ r * v) :
    a ≤ v * a / vf ∧ v * a / vf ≤ v ∧ (v * a / vf - a) * 1000 ≤ r * (v * a / vf) ∧ v * a / vf - a ≤ vr := by
  have hvf : 0 < vf := by omega
  have hfloor : v * a / vf * vf ≤ v * a := Nat.div_mul_le_self _ _
  have hge : a ≤ v * a / vf := by
    rw [Nat.le_div_iff_mul_le hvf, Nat.mul_comm v a]
    exact Nat.mul_le_mul_left a (by omega)
  have hle : v * a / vf ≤ v := by
    refine Nat.div_le_of_le_mul ?_
    rw [Nat.mul_comm vf]
    exact Nat.mul_le_mul_left v ha.le
  obtain ⟨d, hd⟩ : ∃ d, v * a / vf = a + d := ⟨v * a / vf - a, by omega⟩
  refine ⟨hge, hle, ?_, ?_⟩
  all_goals
    rw [hd] at hfloor ⊢
    rw [Nat.add_sub_cancel_left]
    subst hv
    have hshare : d * vf ≤ vr * a := by linarith
    refine Nat.le_of_mul_le_mul_right (c := vf) ?_ hvf
  · obtain ⟨e, he⟩ : ∃ e, r + e = 1000 := ⟨1000 - r, by omega⟩
    have hrest : e * vr ≤ r * vf := by
      rw [← he] at hvr
      linarith
    calc d * 1000 * vf = r * (d * vf) + e * (d * vf) := by rw [← he]; ring
      _ ≤ r * (d * vf) + e * (vr * a) := Nat.add_le_add_left (Nat.mul_le_mul_left e hshare) _
      _ = r * (d * vf) + e * vr * a := by ring
      _ ≤ r * (d * vf) + r * vf * a := Nat.add_le_add_left (Nat.mul_le_mul_right a hrest) _
      _ = r * (a + d) * vf := by ring
  · exact hshare.trans (Nat.mul_le_mul_left vr ha.le)

theorem splitVolume_fits {v r avail a : Nat} (hr : r ≤ 1000) (h10 : 10 ≤ (splitVolume v r avail a).figures.volume) :
    SplitFits v r avail a (splitVolume v r avail a) := by
  have hle := recycledShare_le (v := v) (avail := avail) hr
  have hmul := recycledShare_mul_le v r avail
  have havail : recycledShare v r avail ≤ avail := Nat.min_le_right _ _
  rw [splitVolume_eq] at h10 ⊢
  by_cases ha : a < v - recycledShare v r avail
  · obtain ⟨h1, h2, h3, h4⟩ := scaled_keeps hr (vr := recycledShare v r avail) (by omega) ha hmul
    rw [if_pos ha] at h10 ⊢
    by_cases hsmall : v * a / (v - recycledShare v r avail) < 10
    · rw [if_pos hsmall] at h10
      exact absurd h10 (Nat.not_le.mpr hsmall)
    · rw [if_neg hsmall]
      exact ⟨rfl, decide_eq_true_iff, iff_of_true rfl ha, nofun, fun _ => ⟨rfl, rfl⟩,
        by dsimp only; omega, h2, h3, le_rfl, h4.trans havail⟩
  · rw [if_neg ha]
    exact ⟨rfl, decide_eq_true_iff, iff_of_false Bool.false_ne_true ha, fun _ => ⟨rfl, rfl⟩, nofun,
      Nat.sub_add_cancel hle, le_rfl, hmul, Nat.not_lt.mp ha, havail⟩

/-! ## The plan (R123 to R131) -/

/-- A plan that runs is the split of its volume by the recorded fraction. -/
theorem planPhase_plan {r : PhaseRecord} {u : ReadingsUsed} {avail a debt threshold : Nat} {f : PlanFigures}
    {q : PlanResult} (hq : q = planPhase r u avail a debt threshold) (ho : q.outcome = .plan) (hf : q.figures = some f) :
    q.climit = limitOf (relaxed a threshold r) r r.condLimit ∧
      q.tlimit = limitOf (relaxed a threshold r) r r.turbLimit ∧
      ∃ sp, sp = splitVolume r.volume (recordedFraction u r q.climit q.tlimit (decide (q.action = .zero))) avail a ∧
        sp.figures = f ∧ q.flags.lowRec = sp.lowRec ∧ q.flags.short = sp.short ∧ 10 ≤ f.volume := by
  have hout : ∀ (fl : PhaseFlags) (c : FlagAction) (cl tl : Nat) (sp : Split),
      q = ⟨if sp.figures.volume < 10 then .skipped else .plan, c, { fl with lowRec := sp.lowRec, short := sp.short }, cl, tl,
        some sp.figures⟩ → sp.figures = f ∧ q.flags.lowRec = sp.lowRec ∧ q.flags.short = sp.short ∧ 10 ≤ f.volume := by
    rintro fl c cl tl sp rfl
    obtain rfl : sp.figures = f := Option.some.inj hf
    refine ⟨rfl, rfl, rfl, Nat.not_lt.mp fun h => ?_⟩
    rw [if_pos h] at ho
    cases ho
  unfold planPhase at hq
  dsimp only at hq
  split at hq
  · subst hq
    cases ho
  · subst hq
    cases ho
  · obtain ⟨h1, h2, h3, h4⟩ := hout _ _ _ _ _ hq
    subst hq
    exact ⟨rfl, rfl, _, rfl, h1, h2, h3, h4⟩

theorem recordedFraction_le (u : ReadingsUsed) (r : PhaseRecord) (c t : Nat) (zero : Bool) :
    recordedFraction u r c t zero ≤ r.cap := by
  unfold recordedFraction
  split
  · exact Nat.zero_le _
  · exact Nat.min_le_right _ _

theorem planFitsItsLimits : Clause.PlanFitsItsLimits := by
  intro r u avail a debt threshold f q hv hcap hq ho hf
  obtain ⟨hc, ht, sp, hsp, hfig, hlow, hshort, h10⟩ := planPhase_plan hq ho hf
  have hcapped := recordedFraction_le u r q.climit q.tlimit (decide (q.action = .zero))
  have hfits := splitVolume_fits (v := r.volume) (avail := avail) (a := a) (hcapped.trans hcap)
    (by rw [← hsp, hfig]; exact h10)
  rw [← hsp] at hfits
  obtain ⟨hr, hlow', hshort', hwhole, hscaled, hsum, hvol, hshare, hfresh, hrec⟩ := hfits
  rw [← hlow] at hlow'
  rw [← hshort] at hshort' hwhole hscaled
  rw [hfig] at hr hwhole hscaled hsum hvol hshare hfresh hrec
  rw [← hr] at hlow' hshort' hwhole hscaled hcapped
  refine ⟨fun h1 h2 => ?_, fun h => ?_, fun h => ?_, fun h => ?_, hcapped, hlow', hshort', hwhole, hscaled, hsum, h10,
    hvol, hshare, hfresh, hrec⟩
  · have hrel : relaxed a threshold r = true := by simp [relaxed, h1, h2]
    rw [hc, ht, hrel]
    exact ⟨rfl, rfl⟩
  · have hrel : relaxed a threshold r = false := by
      rw [relaxed, Bool.and_eq_false_iff, decide_eq_false_iff_not, decide_eq_false_iff_not]
      omega
    rw [hc, ht, hrel]
    exact ⟨rfl, rfl⟩
  · have hzero : f.r = 0 := by
      rw [hr, recordedFraction, if_pos (decide_eq_true h)]
    rw [hzero] at hshare
    exact ⟨hzero, by omega⟩
  · rw [hr, recordedFraction, if_neg (by simpa using h)]

/-- Settles O47. -/
theorem blendKeepsItsLimits : Obligations.BlendKeepsItsLimits := ⟨planFitsItsLimits, fractionKeepsLimit⟩

/-! ## Calibration and compensation (R109, R110) -/

/-- The ceiling of a quotient is less than one unit above it. -/
theorem intCeil_bounds (a : Int) {b : Int} (hb : 0 < b) : 0 ≤ intCeil a b * b - a ∧ intCeil a b * b - a < b := by
  have hlow := Int.ediv_mul_le (-a) hb.ne'
  have hhigh := Int.lt_ediv_add_one_mul_self (-a) hb
  unfold intCeil
  constructor <;> linarith

theorem intCeil_nonneg {a b : Int} (ha : 0 ≤ a) (hb : 0 < b) : 0 ≤ intCeil a b := by
  have hlow := (intCeil_bounds a hb).1
  by_contra h
  have := mul_le_mul_of_nonneg_right (show intCeil a b ≤ -1 by omega) hb.le
  linarith

theorem intCeil_mul_self (a : Int) {b : Int} (hb : 0 < b) : intCeil (b * a) b = a := by
  rw [intCeil, ← Int.mul_neg, Int.mul_ediv_cancel_left _ hb.ne', Int.neg_neg]

theorem intCeil_le {a b c : Int} (h : a ≤ b * c) (hb : 0 < b) : intCeil a b ≤ c := by
  have hhigh := (intCeil_bounds a hb).2
  by_contra hc
  have := mul_le_mul_of_nonneg_right (show c + 1 ≤ intCeil a b by omega) hb.le
  linarith

/-- Settles O48. -/
theorem readingsCalibrated : Obligations.ReadingsCalibrated := by
  refine ⟨fun lo hi code h => ?_, fun ct t => ?_⟩
  · have hcode : (code.toNat : Int) ≤ 1023 := by
      have := code.isLt
      omega
    obtain ⟨h0, h1⟩ := intCeil_bounds (code.toNat * (hi - lo)) (show (0 : Int) < 1023 by decide)
    have hnonneg := intCeil_nonneg (Int.mul_nonneg (Int.natCast_nonneg code.toNat) (show 0 ≤ hi - lo by omega))
      (show (0 : Int) < 1023 by decide)
    have hle : intCeil (code.toNat * (hi - lo)) 1023 ≤ hi - lo :=
      intCeil_le (mul_le_mul_of_nonneg_right hcode (by omega)) (by decide)
    have hend : intCeil (1023 * (hi - lo)) 1023 = hi - lo := intCeil_mul_self _ (by decide)
    refine ⟨?_, ?_, ?_, ?_, ?_, ?_⟩
    · show lo + intCeil (0 * (hi - lo)) 1023 = lo
      rw [Int.zero_mul]
      exact Int.add_zero lo
    · show lo + intCeil (1023 * (hi - lo)) 1023 = hi
      omega
    · unfold calibrate
      omega
    · unfold calibrate
      omega
    · unfold calibrate
      linarith
    · unfold calibrate
      linarith
  · have hheld : -10 ≤ holdTemp t ∧ holdTemp t ≤ 50 := by
      unfold holdTemp
      omega
    refine ⟨?_, hheld, intCeil_bounds (ct * 1000) (by omega)⟩
    show intCeil (ct * 1000) 1000 = ct
    rw [Int.mul_comm]
    exact intCeil_mul_self ct (by decide)

/-! ## The supply's figures (R139, R148) -/

theorem maskCount_eq (m : Four Bool) : maskCount m = [m.f1, m.f2, m.f3, m.f4].count true := by
  obtain ⟨a, b, c, d⟩ := m
  revert a b c d
  decide

theorem cart_of_get {m : Four Bool} (h : ∀ c, m.get c = false) : m = ⟨false, false, false, false⟩ := by
  obtain ⟨a, b, c, d⟩ := m
  obtain rfl : a = false := h .cart1
  obtain rfl : b = false := h .cart2
  obtain rfl : c = false := h .cart3
  obtain rfl : d = false := h .cart4
  rfl

/-- Where none of the other cartridges is in the mask, the pointer's own is. -/
theorem nextCart_inMask {m : Four Bool} (hm : m ≠ ⟨false, false, false, false⟩) (c : Cart) :
    m.get (nextCart m c) = true := by
  unfold nextCart
  dsimp only
  split
  · assumption
  · split
    · assumption
    · split
      · assumption
      · by_contra hc
        refine hm (cart_of_get fun e => ?_)
        cases c <;> cases e <;> exact Bool.eq_false_of_not_eq_true ‹_›

/-- Settles O50. -/
theorem spacingAndNextCartridge : Obligations.SpacingAndNextCartridge := by
  refine ⟨fun t => ⟨?_, rfl⟩, rfl, rfl, ⟨rfl, rfl⟩, fun m c hm => nextCart_inMask hm c, rfl, rfl⟩
  rw [Settings.spacing, maskCount_eq]

end Sys2Proof.Proofs.Figures
end

section
/-!
The book of the loop at its requests and events: TRIM_LOOP, DISCHARGE, the reclaim pump, the discharge valve, and a refill
that completes with the rest test of its bay (R66, R164 to R167).
-/

namespace Sys2Proof.Proofs.LoopBook

open Sys2Proof Sys2Proof.Machine Sys2Proof.Safety Sys2Proof.Proofs.Running Sys2Proof.Proofs.Bays Sys2Proof.Proofs.Tables

set_option Elab.async false

/-! ## Consequences that all bring nothing -/

theorem settle_still {s : State} {l : List Task} (h : ∀ t ∈ l, (Work.mk s []).handle t = ⟨s, []⟩) :
    (Work.mk s l).settle = s := by
  induction l with
  | nil => exact Work.settle_done s
  | cons t rest ih =>
    obtain ⟨ht, hrest⟩ := List.forall_mem_cons.mp h
    rw [settle_done ht, ih hrest]

/-- A rise of the tank brings a grant pass and a purge start test, and nothing where neither has anything to do. -/
theorem settle_risen {s before after : State} (hd : s.sa.debt = 0) (hr : s.sa.requests = Six.all false) :
    (Work.mk s (risen before after)).settle = s := by
  refine settle_still fun t ht => ?_
  have hcases : t = .grantPass ∨ t = .purgeTest := by
    unfold risen at ht
    rcases List.mem_append.mp ht with h | h <;> split at h <;> simp_all
  rcases hcases with rfl | rfl
  · exact handle_grantPass_calm hr
  · exact Work.handle_purgeTest_calm s (purgeReady_of_debt hd)

/-! ## TRIM_LOOP (R166) -/

theorem vBays_noPhase {s : State} (h : NoPhase s) : s.vBays = 0 := by
  refine Invariants.pr_map_none ?_
  rw [← Bool.not_eq_true, List.any_eq_true]
  rintro ⟨r, hr, hplan⟩
  obtain ⟨b, rfl⟩ : ∃ b, r = s.pr.get b := by
    simp only [Six.toList, List.mem_cons, List.not_mem_nil, or_false] at hr
    rcases hr with rfl | rfl | rfl | rfl | rfl | rfl
    exacts [⟨.bay1, rfl⟩, ⟨.bay2, rfl⟩, ⟨.bay3, rfl⟩, ⟨.bay4, rfl⟩, ⟨.bay5, rfl⟩, ⟨.bay6, rfl⟩]
  rw [show (s.pr.get b).plan = none from h b] at hplan
  cases hplan

theorem trimBlocked_none {s : State} (hp : NoPhase s) (hpurge : s.sa.purge = none) (hr : s.lm.refills = Six.all none)
    (hd : s.lm.discharge = none) (h6 : (s.qs.readings.getCh .ch6).valid = true)
    (h7 : (s.qs.readings.getCh .ch7).valid = true) : s.trimBlocked = false := by
  have hphases : s.pr.toList.any (·.plan.isSome) = false := by
    simp only [Six.toList, List.any_cons, List.any_nil, show s.pr.s1.plan = none from hp .bay1,
      show s.pr.s2.plan = none from hp .bay2, show s.pr.s3.plan = none from hp .bay3,
      show s.pr.s4.plan = none from hp .bay4, show s.pr.s5.plan = none from hp .bay5,
      show s.pr.s6.plan = none from hp .bay6]
    rfl
  rw [State.trimBlocked, hphases, hpurge, hr, hd, h6, h7]
  rfl

theorem reqTrimLoop_eq {w : Work} (h : w.s.trimBlocked = false) :
    w.reqTrimLoop (.fields ()) =
      ((w.upd (·.trim)).after (risen w.s w.s.trim)).ok (.trimmed (trimReply w.s w.s.trim)) := by
  simp only [Work.reqTrimLoop, Work.withBody, h, Bool.false_eq_true, if_false]
  rfl

theorem loopTrimmed : Clause.LoopTrimmed := by
  intro tag s hs
  refine ⟨fun hd => ?blocked, fun hp hpurge hr hd h6 h7 hdebt hreq => ?trimmed⟩
  case blocked =>
    refine exec_says (r := .trimLoop (.fields ())) rfl hs fun w hw => ?_
    have hblocked : w.s.trimBlocked = true := by
      have hsome : s.lm.discharge.isSome = true := Option.isSome_iff_ne_none.mpr hd
      rw [hw]
      show s.trimBlocked = true
      simp only [State.trimBlocked, hsome, Bool.or_true, Bool.true_or]
    show w.reqTrimLoop _ = _
    simp only [Work.reqTrimLoop, Work.withBody, hblocked, if_true]
    rfl
  case trimmed =>
    have hfree := trimBlocked_none hp hpurge hr hd h6 h7
    refine ⟨_, trimReply s s.trim, exec_apart (r := .trimLoop (.fields ())) rfl hs
      (reqTrimLoop_eq hfree) (settle_risen (s := (withHeld s _).trim) hdebt hreq) rfl, rfl, rfl, rfl, rfl, rfl, rfl, rfl, rfl, ?_, rfl, rfl, rfl,
      rfl, rfl, rfl, rfl, rfl, rfl, rfl, rfl, rfl⟩
    have hbays := vBays_noPhase hp
    show max 0 (s.qs.readings.getCh .ch6).value + max 0 (s.qs.readings.getCh .ch7).value + (s.vLines : Int) +
      (s.vBays : Int) = max 0 (s.qs.readings.getCh .ch6).value + max 0 (s.qs.readings.getCh .ch7).value +
        (s.vLines : Int) + (0 : Nat) - (0 : Nat) - (0 : Nat) - (0 : Nat)
    rw [hbays]
    omega

/-! ## DISCHARGE (R165) -/

theorem reqDischarge_eq {w : Work} {n : Nat} (h1 : 1 ≤ n) (h2 : n ≤ 60000) :
    w.reqDischarge (.fields n) =
      (w.upd (·.discharge n)).ok (.discharged (w.s.dischargeLitres n) (w.s.discharge n).lm.vSet) := by
  have hin : (!within 1 60000 n) = false := congrArg not (within_iff.mpr ⟨h1, h2⟩)
  simp only [Work.reqDischarge, Work.withBody, hin, Bool.false_eq_true, if_false]
  rfl

theorem pitDischarged : Clause.PitDischarged := by
  intro tag n s hs
  refine ⟨fun h => ?range, fun h1 h2 hv => ?moved⟩
  case range =>
    have hout : (!within 1 60000 n) = true := by
      rw [Bool.not_eq_true', ← Bool.not_eq_true, within_iff]
      omega
    refine exec_says (r := .discharge (.fields n)) rfl hs fun w _ => ?_
    show w.reqDischarge _ = _
    simp only [Work.reqDischarge, Work.withBody, hout, if_true]
    rfl
  case moved =>
    have hmoved : ((min n s.lm.vSet.toNat : Nat) : Int) = min (n : Int) s.lm.vSet := by omega
    have huntil : s.dischargeUntil (min n s.lm.vSet.toNat) =
        some (s.lm.discharge.getD s.now + 1000 * ((min n s.lm.vSet.toNat + 4) / 5)) := if_neg (by omega)
    refine ⟨_, exec_done (r := .discharge (.fields n)) (v := s.discharge n) rfl hs ((reqDischarge_eq h1 h2).trans rfl) hs.1,
      ?_, ?_, rfl, huntil, rfl, rfl, rfl, rfl, rfl, rfl, rfl⟩
    · show s.lm.vSet - ((min n s.lm.vSet.toNat : Nat) : Int) = _
      rw [hmoved]
    · show ((s.lm.discharged + min n s.lm.vSet.toNat : Nat) : Int) = _
      rw [← hmoved]
      exact Int.natCast_add _ _

/-- Settles O32. -/
theorem loopTrimmedAndDischarged : Obligations.LoopTrimmedAndDischarged := ⟨loopTrimmed, pitDischarged⟩

/-! ## The reclaim pump and the discharge valve (R164, R165) -/

/-- A litre that the reclaim pump has moved. -/
def reclaimed (s : State) : State :=
  (s.modLoop fun l => { l with vSet := l.vSet - 1, vRec := l.vRec + 1 }).decideReclaim

theorem reclaimed_leftSide (s : State) : (reclaimed s).leftSide = s.leftSide := by
  show s.lm.vSet - 1 + (s.lm.vRec + 1) + (s.vLines : Int) + (s.vBays : Int) = _
  rw [State.leftSide]
  omega

theorem reclaimMovesWater : Clause.ReclaimMovesWater := by
  intro due s
  have exec_reclaimPulse : exec .reclaimPulse s = Machine.run s (·.reclaimPulse) := rfl
  have exec_dischargeValveClose : exec .dischargeValveClose s =
      onExpiry s s.lm.discharge (·.upd (·.modLoop fun l => { l with discharge := none })) := rfl
  rw [exec_reclaimPulse, exec_dischargeValveClose]
  refine ⟨fun hr hd hreq => ?running, fun hr => ?stopped, fun h => ?closes, fun h => ?shut⟩
  case running =>
    have hpulse : (Work.mk s []).reclaimPulse = ⟨reclaimed s, risen s (reclaimed s)⟩ := if_pos hr
    exact ⟨_, run_next hpulse (settle_risen (s := reclaimed s) hd hreq), rfl, rfl, rfl, reclaimed_leftSide s, rfl, rfl⟩
  case stopped => exact run_of_done (if_neg (by rw [hr]; decide))
  case closes => rw [h]; exact run_upd _ _
  case shut => rw [h, onExpiry_none]

/-! ## The rest test that makes a bay EMPTY (R66, R69) -/

/-- The record of a bay that comes to EMPTY with its sensors inactive. -/
def emptyRecord (r : BayRecord) : BayRecord :=
  { r.restIn .empty with
    service := r.service.afterTest
    lastFault := .none }

/-- The state in which a bay has come to EMPTY. -/
def emptied (s : State) (b : Bay) (left : BayState) (released : Option Nat) : State :=
  { s with
    bc := s.bc.set b (emptyRecord (s.bc.get b))
    lp := (s.notify (.bayState (bayStateNotice (emptyRecord (s.bc.get b)) b left released))).lp }

theorem enterEmpty_quiet {s : State} {b : Bay} {left : BayState} {released : Option Nat} {ts : List Task}
    (hw : (s.bc.get b).wheelStop = false) (hr : (s.bc.get b).rearBeam = false) :
    (Work.mk (s.modBay b fun r => { r with service := r.service.afterTest }) ts).enterEmpty b left released =
      ⟨emptied s b left released, ts ++ [.matchPass]⟩ := by
  have hnotice : ((s.modBay b fun r => { r with service := r.service.afterTest }).modBay b fun r =>
      { r.restIn .empty with lastFault := .none }).bayNotice b left released = emptied s b left released := by
    rw [modBay_modBay, bayNotice_modBay]
    rfl
  have hread : (emptied s b left released).readEmpty b = emptied s b left released := by
    have hrec : (emptied s b left released).bc.get b = emptyRecord (s.bc.get b) := Six.get_set_same _ _ _
    have hseated : ((emptied s b left released).bc.get b).seated = false := by
      rw [hrec]
      show ((s.bc.get b).wheelStop && _) = false
      rw [hw, Bool.false_and]
    have hone : ((emptied s b left released).bc.get b).oneActive = false := by
      rw [hrec]
      show ((s.bc.get b).wheelStop != (s.bc.get b).rearBeam) = false
      rw [hw, hr]
      rfl
    simp only [State.readEmpty, hseated, hone, Bool.false_eq_true, if_false]
    show ({ emptied s b left released with bc := (emptied s b left released).bc.set b _ } : State) = _
    rw [hrec]
    show ({ emptied s b left released with
      bc := (s.bc.set b (emptyRecord (s.bc.get b))).set b (emptyRecord (s.bc.get b)) } : State) = _
    rw [six_set_set]
    rfl
  simp only [Work.enterEmpty, Work.upd, hnotice, hread, Work.after]

/-- The rest test of a bay with inactive sensors that gives EMPTY. -/
theorem restTestFrom_empty {s : State} {b : Bay} {left : BayState} {released : Option Nat} {ts : List Task}
    (hres : restResult (s.bc.get b).service (s.bc.get b).lineFilled s.lm.mode = .empty)
    (hst : (s.bc.get b).state ≠ .empty) (hw : (s.bc.get b).wheelStop = false) (hr : (s.bc.get b).rearBeam = false) :
    (Work.mk s ts).restTestFrom b left released = ⟨emptied s b left released, ts ++ [.matchPass]⟩ := by
  have hne : ¬ restResult (s.bc.get b).service (s.bc.get b).lineFilled s.mode = (s.bc.get b).state := by
    rw [State.mode_eq, hres]
    exact hst.symm
  unfold Work.restTestFrom
  dsimp only
  rw [if_neg hne, State.mode_eq, hres]
  exact enterEmpty_quiet hw hr

/-! ## A refill completes (R167) -/

theorem refillCompletes : Clause.RefillCompletes := by
  intro b r s
  have exec_refillCompletion : exec (.refillCompletion b) s = execRefillCompletion b s := rfl
  rw [exec_refillCompletion, execRefillCompletion]
  refine ⟨fun h => by rw [h], fun h hm hst hsvc hw hr hq => ?_⟩
  rw [h]
  have hrec : ((s.reach r.until_).bookRefill b r).bc.get b = { s.bc.get b with lineFilled := true } :=
    Six.get_set_same _ _ _
  have htest : (Work.mk ((s.reach r.until_).bookRefill b r) []).restTest b none =
      ⟨emptied ((s.reach r.until_).bookRefill b r) b .refilling none, [.matchPass]⟩ := by
    have hleft : (((s.reach r.until_).bookRefill b r).bc.get b).state = .refilling := by rw [hrec]; exact hst
    unfold Work.restTest
    rw [hleft]
    refine restTestFrom_empty ?_ (by rw [hleft]; decide) (by rw [hrec]; exact hw) (by rw [hrec]; exact hr)
    have hmode : ((s.reach r.until_).bookRefill b r).lm.mode = .opened := hm
    rw [hrec, hmode]
    show restResult (s.bc.get b).service true .opened = .empty
    rw [hsvc]
    rfl
  have hdone : (Work.mk (s.reach r.until_) []).refillDone b r =
      ⟨(emptied ((s.reach r.until_).bookRefill b r) b .refilling none).decideReclaim, [.matchPass]⟩ := by
    have hmode : ((s.reach r.until_).bookRefill b r).mode = .opened := hm
    have hstate : (((s.reach r.until_).bookRefill b r).bc.get b).state = .refilling := by rw [hrec]; exact hst
    have hafter : (emptied ((s.reach r.until_).bookRefill b r) b .refilling none).decideReclaim.mode = .opened := hm
    simp only [Work.refillDone, Work.upd, hmode, reduceCtorEq, if_false, hstate, htest, hafter]
  have hcalm := Work.handle_matchPass_empty (emptied ((s.reach r.until_).bookRefill b r) b .refilling none).decideReclaim hq
  refine ⟨_, bayStateNotice (emptyRecord (((s.reach r.until_).bookRefill b r).bc.get b)) b .refilling none,
    run_next hdone ((settle_done hcalm).trans (Work.settle_done _)), rfl, ?_, ?_, ?_, rfl, rfl, fun hsrc => ⟨?_, ?_⟩, fun hsrc => ⟨?_, ?_⟩, rfl, hm, rfl, rfl, rfl, fun c hc => ?_, rfl, rfl,
    rfl, rfl, rfl⟩
  · exact congrArg BayRecord.state (Six.get_set_same _ _ _)
  · exact (congrArg BayRecord.lineFilled (Six.get_set_same _ _ _)).trans (congrArg BayRecord.lineFilled hrec)
  · exact congrArg BayRecord.lastFault (Six.get_set_same _ _ _)
  · exact if_pos hsrc
  · exact if_neg (by rw [hsrc]; decide)
  · exact if_neg (by rw [hsrc]; decide)
  · exact if_pos hsrc
  · exact (Six.get_set_ne _ _ _ _ hc).trans (Six.get_set_ne _ _ _ _ hc)

/-- Settles O55. -/
theorem reclaimAndRefill : Obligations.ReclaimAndRefill := ⟨reclaimMovesWater, refillCompletes⟩

end Sys2Proof.Proofs.LoopBook
end

section
/-!
The Supply Arbiter: the grant pass, grants that begin and end, purges and the fixed-lead cycle (R139 to R156).
-/

namespace Sys2Proof.Proofs.SupplyChannels

open Sys2Proof Sys2Proof.Machine Sys2Proof.Safety Sys2Proof.Proofs.Running Sys2Proof.Proofs.Phases
  Sys2Proof.Proofs.Washing Sys2Proof.Proofs.LoopBook

set_option Elab.async false

/-! ## The grant pass (R142) -/

/-- What a grant needs but a free channel and a request, said with the state's fields. -/
theorem grantsAllowed_iff {s : State} :
    s.grantsAllowed = true ↔ (s.lm.mode = .opened ∨ s.lm.mode = .hold) ∧ s.sa.purge = none ∧
      (s.dt.settings.reserveFloor : Int) < s.lm.vRec ∧ (s.dt.settings.leadMode = .variable → s.sa.debt = 0) ∧
      (s.dt.settings.leadMode = .fixed → s.sa.cycle = .window) := by
  have hmode : washes s.mode = true ↔ s.lm.mode = .opened ∨ s.lm.mode = .hold := by
    rw [State.mode_eq]
    cases s.lm.mode <;> simp [washes]
  have havail : 0 < s.avail ↔ (s.dt.settings.reserveFloor : Int) < s.lm.vRec := by
    unfold State.avail State.settings
    omega
  have hcycle : ¬ s.sa.cycle = .slot ↔ s.sa.cycle = .window := by
    cases s.sa.cycle <;> simp
  unfold State.grantsAllowed State.settings
  simp only [Bool.and_eq_true, Bool.not_eq_true', Bool.and_eq_false_iff, decide_eq_true_eq, decide_eq_false_iff_not,
    hmode, havail, Option.isNone_iff_eq_none, and_assoc]
  have hdebt : ¬ 1 ≤ s.sa.debt ↔ s.sa.debt = 0 := by omega
  rw [hdebt, hcycle, imp_iff_not_or, imp_iff_not_or]

/-- The arbiter when a bay's turn has come: it leaves the request set, and a channel stands as given. -/
def served (a : Arbiter) (ch : Supply) (b : Bay) (c : SupplyState) (order : List Bay) : Arbiter :=
  { a with
    channels := a.channels.setChan ch c
    requests := a.requests.set b false
    priority := order }

/-- The state in which a channel has been allotted to a bay and starts with the lead (R143). -/
def started (s : State) (ch : Supply) (b : Bay) (order : List Bay) : State :=
  { s with sa := served s.sa ch b (.starting b (s.now + 1000 * s.dt.settings.startLead)) order }

/-- The first bay of the priority order with a request, and the order when its turn has come. -/
theorem firstRequest_eq {s : State} {b : Bay} {x y : List Bay} (hp : s.sa.priority = x ++ b :: y)
    (hx : ∀ e ∈ x, s.sa.requests.get e = false) (hb : s.sa.requests.get b = true) : s.firstRequest = some b := by
  rw [State.firstRequest, hp, List.find?_append, List.find?_cons_of_pos hb]
  have : (x.find? fun c => s.sa.requests.get c) = none := by
    rw [List.find?_eq_none]
    intro e he h
    exact absurd ((hx e he).symm.trans h) (by decide)
  rw [this]
  rfl

theorem takeTurn_eq {s : State} {b : Bay} {x y : List Bay} (hp : s.sa.priority = x ++ b :: y) (hx : b ∉ x)
    (hy : b ∉ y) : s.takeTurn b = { s with sa := { s.sa with
      requests := s.sa.requests.set b false
      priority := x ++ y ++ [b] } } := by
  have hfilter : (x ++ b :: y).filter (fun c => decide (c ≠ b)) = x ++ y := by
    have hkeep : ∀ l : List Bay, b ∉ l → l.filter (fun c => decide (c ≠ b)) = l := by
      intro l hl
      refine List.filter_eq_self.mpr fun c hc => decide_eq_true ?_
      rintro rfl
      exact hl hc
    rw [List.filter_append, List.filter_cons_of_neg (by simp), hkeep x hx, hkeep y hy]
  rw [State.takeTurn, State.modArbiter]
  dsimp only
  rw [hp, hfilter]

theorem not_mem_of_requests {a : Arbiter} {b : Bay} {x : List Bay} (hx : ∀ e ∈ x, a.requests.get e = false)
    (hb : a.requests.get b = true) : b ∉ x := by
  intro h
  exact absurd ((hx b h).symm.trans hb) (by decide)

theorem grantOne_some {s : State} {ch : Supply} {b : Bay} (ha : s.grantsAllowed = true) (hf : s.freeChoice = some ch)
    (hr : s.firstRequest = some b) : s.grantOne = s.allot ch b := by
  simp only [State.grantOne, ha, hf, hr]

theorem grantOne_noChannel {s : State} (h : s.freeChoice = none) : s.grantOne = s := by
  unfold State.grantOne
  split
  · simp_all
  · rfl

/-- An IDLE channel is allotted: it starts with the lead (R143). -/
theorem grantOne_starts {s : State} {ch : Supply} {b : Bay} {x y : List Bay} (ha : s.grantsAllowed = true)
    (hf : s.freeChoice = some ch) (hidle : s.channel ch = .idle) (hlead : 0 < s.dt.settings.startLead)
    (hp : s.sa.priority = x ++ b :: y) (hx : ∀ e ∈ x, s.sa.requests.get e = false) (hb : s.sa.requests.get b = true)
    (hy : b ∉ y) :
    s.grantOne = started s ch b (x ++ y ++ [b]) := by
  rw [grantOne_some ha hf (firstRequest_eq hp hx hb), State.allot, hidle,
    takeTurn_eq hp (not_mem_of_requests hx hb) hy]
  exact if_neg (by simpa [SupplyState.isRunOn] using hlead.ne')

/-- A channel in RUN_ON is allotted: it is granted at once (R144). -/
theorem grantOne_grants {s : State} {ch : Supply} {b : Bay} {x y : List Bay} {e : Nat} {p : PhaseRun}
    (ha : s.grantsAllowed = true) (hf : s.freeChoice = some ch) (hrun : s.channel ch = .runOn e)
    (hp : s.sa.priority = x ++ b :: y) (hx : ∀ e ∈ x, s.sa.requests.get e = false) (hb : s.sa.requests.get b = true)
    (hy : b ∉ y) (hplan : s.plan? b = some p) :
    s.grantOne = { s with
      sa := served s.sa ch b (.granted b (s.now + 1000 * s.dt.settings.grantTimeout)) (x ++ y ++ [b])
      pr := s.pr.set b { s.pr.get b with plan := some (p.granted s.now ch) } } := by
  rw [grantOne_some ha hf (firstRequest_eq hp hx hb), State.allot, hrun,
    takeTurn_eq hp (not_mem_of_requests hx hb) hy]
  exact modPlan_some (s := ({ s with
    sa := served s.sa ch b (.granted b (s.now + 1000 * s.dt.settings.grantTimeout)) (x ++ y ++ [b]) } : State)) hplan _

/-- RUN_ON before IDLE, channel 1 before channel 2. -/
def freeOf (v : Pair SupplyState) : Option Supply :=
  if v.p1.isRunOn then some .supply1 else if v.p2.isRunOn then some .supply2
  else if v.p1 = .idle then some .supply1 else if v.p2 = .idle then some .supply2 else none

theorem freeChoice_eq (s : State) : s.freeChoice = freeOf s.sa.channels := by
  have hpair : ∀ c d : SupplyState, ((Supply.all.find? fun ch => ((Pair.mk c d).chan ch).isRunOn).or
      (Supply.all.find? fun ch => decide ((Pair.mk c d).chan ch = .idle))) = freeOf ⟨c, d⟩ := by
    intro c d
    cases c <;> cases d <;> rfl
  exact hpair _ _

theorem busy_apart {c : SupplyState} (h : c.busy = true) : c.isRunOn = false ∧ c ≠ .idle := by
  cases c <;> simp_all [SupplyState.busy, SupplyState.bay?, SupplyState.isRunOn]

/-- A busy channel is not free. -/
theorem freeOf_other {v : Pair SupplyState} {ch other : Supply} (h : ch ≠ other) (hbusy : (v.chan other).busy = true) :
    freeOf (v.setChan ch .idle) = some ch ∧ ∀ c : SupplyState, c.busy = true → freeOf (v.setChan ch c) = none := by
  obtain ⟨c1, c2⟩ := v
  obtain ⟨hrun, hidle⟩ := busy_apart hbusy
  have hrest : SupplyState.idle.isRunOn = false := rfl
  refine ⟨?_, fun c hc => ?_⟩
  · cases ch <;> cases other <;> first | exact absurd rfl h | skip
    all_goals
      simp only [Pair.chan] at hrun hidle
      simp [freeOf, Pair.setChan, hrun, hrest, hidle]
  · obtain ⟨hrun', hidle'⟩ := busy_apart hc
    cases ch <;> cases other <;> first | exact absurd rfl h | skip
    all_goals
      simp only [Pair.chan] at hrun hidle
      simp [freeOf, Pair.setChan, hrun, hidle, hrun', hidle']

/-! ## A channel that comes free (R142, R146) -/

theorem exec_runOnExpiry {s : State} {ch : Supply} {due : Nat} (h : s.channel ch = .runOn due) :
    exec (.runOnExpiry ch) s =
      Machine.run (s.reach due) fun w => (w.upd (·.setChannel ch .idle)).after [.grantPass] := by
  show execRunOnExpiry ch s = _
  rw [execRunOnExpiry, h]

/-- The state in which a channel's run-on is over, before the grant pass. -/
def runOver (s : State) (ch : Supply) (due : Nat) : State :=
  { s with
    now := max s.now due
    sa := { s.sa with channels := s.sa.channels.setChan ch .idle } }

theorem runOnExpiry_settle {s : State} {ch : Supply} {due : Nat} (h : s.channel ch = .runOn due) :
    exec (.runOnExpiry ch) s = .next (runOver s ch due).grantOne.grantOne := by
  rw [exec_runOnExpiry h]
  refine run_next (u := runOver s ch due) (ts := [.grantPass]) rfl ?_
  rw [settle_done (Work.handle_grantPass _), Work.settle_done]

theorem exec_idleSupply {s : State} {ch : Supply} (h : s.channel ch = .idle) :
    exec (.pumpStartLeadExpiry ch) s = .next s ∧ exec (.grantTimeout ch) s = .next s ∧
      exec (.drawMaxCut ch) s = .next s ∧ exec (.runOnExpiry ch) s = .next s := by
  refine ⟨?_, ?_, ?_, ?_⟩
  · show execPumpStartLeadExpiry ch s = _
    rw [execPumpStartLeadExpiry, h]
  · show execGrantTimeout ch s = _
    rw [execGrantTimeout, h]
  · show execDrawMaxCut ch s = _
    rw [execDrawMaxCut, h]
  · show execRunOnExpiry ch s = _
    rw [execRunOnExpiry, h]

theorem channelAllotted : Clause.ChannelAllotted := by
  intro ch other due s hne hch hbusy
  rw [runOnExpiry_settle hch]
  obtain ⟨hfree, hnone⟩ := freeOf_other hne (show (s.sa.channels.chan other).busy = true from hbusy)
  refine ⟨fun b x y hp hx hb hy hmode hpurge hrec hvar hfix hlead => ?allotted, fun h => ?forbidden⟩
  case allotted =>
    have hallowed : (runOver s ch due).grantsAllowed = true :=
      grantsAllowed_iff.mpr ⟨hmode, hpurge, hrec, hvar, hfix⟩
    have hfirst := grantOne_starts (s := runOver s ch due) (ch := ch) hallowed ((freeChoice_eq _).trans hfree)
      (Pair.chan_setChan_same _ _ _) hlead hp hx hb hy
    have hset : ∀ v : Pair SupplyState, ∀ c d : SupplyState, (v.setChan ch c).setChan ch d = v.setChan ch d := by
      intro v c d
      cases ch <;> rfl
    rw [hfirst, grantOne_noChannel]
    · show Host.Outcome.next ({ s with
        now := max s.now due
        sa := { s.sa with
          channels := (s.sa.channels.setChan ch .idle).setChan ch _
          requests := _
          priority := _ } } : State) = _
      rw [hset]
      rfl
    · rw [freeChoice_eq]
      show freeOf ((s.sa.channels.setChan ch .idle).setChan ch _) = none
      rw [hset]
      exact hnone _ rfl
  case forbidden =>
    have hforbidden : (runOver s ch due).grantsAllowed = false := by
      rw [← Bool.not_eq_true, grantsAllowed_iff]
      rintro ⟨hmode, hpurge, hrec, hvar, hfix⟩
      rcases h with ⟨h1, h2⟩ | h | h | ⟨h1, h2⟩ | ⟨h1, h2⟩
      · exact hmode.elim h1 h2
      · exact h hpurge
      · exact absurd hrec (not_lt.mpr h)
      · have : s.sa.debt = 0 := hvar h1
        omega
      · exact absurd (h2.symm.trans (hfix h1)) (by decide)
    rw [grantOne_notAllowed hforbidden, grantOne_notAllowed hforbidden]
    rfl

/-! ## The start lead runs out (R143, R91) -/

theorem granted_fields {p : PhaseRun} (now : Nat) (ch : Supply) (hst : p.stage = .paused) (hr : p.requested = true) :
    (p.granted now ch).stage = .running ∧ (p.granted now ch).grant = some ch ∧ (p.granted now ch).requested = false ∧
      (p.granted now ch).recycledOpen = true ∧ (p.granted now ch).freshOpen = decide (p.fresh < p.plannedFresh) ∧
      (p.granted now ch).fresh = p.fresh ∧ (p.granted now ch).recycled = p.recycled := by
  obtain ⟨-, -, -, hstage, hfresh, hrecycled, -, -⟩ := run_fields p now
  rw [PhaseRun.granted, if_pos ⟨hst, hr⟩]
  exact ⟨hstage, rfl, rfl, rfl, rfl, hfresh, hrecycled⟩

theorem grantBegins : Clause.GrantBegins := by
  intro ch due s
  refine ⟨fun b p hch hp hst hr => ?starts, fun hch hreq => ?runOn, fun hch => exec_idleSupply hch⟩
  case starts =>
    have hexec : exec (.pumpStartLeadExpiry ch) s = .next ((s.reach due).grant ch b) := by
      show execPumpStartLeadExpiry ch s = _
      rw [execPumpStartLeadExpiry, hch]
      exact run_upd _ _
    have hgrant : (s.reach due).grant ch b = { s with
        now := max s.now due
        sa := { s.sa with
          channels := s.sa.channels.setChan ch (.granted b (max s.now due + 1000 * s.dt.settings.grantTimeout)) }
        pr := s.pr.set b { s.pr.get b with plan := some (p.granted (max s.now due) ch) } } := by
      rw [State.grant, modPlan_some (s := (s.reach due).setChannel ch _) hp]
      rfl
    obtain ⟨h1, h2, h3, h4, h5, h6, h7⟩ := granted_fields (max s.now due) ch hst hr
    rw [hexec, hgrant]
    exact ⟨_, _, rfl, rfl, Pair.chan_setChan_same _ _ _, rfl, rfl, rfl, congrArg BayRunner.plan (Six.get_set_same _ _ _),
      h1, h2, h3, h4, h5, h6, h7, fun c hc => Six.get_set_ne _ _ _ _ hc⟩
  case runOn =>
    rw [runOnExpiry_settle hch, grantOne_noRequest (s := runOver s ch due) (firstRequest_none hreq),
      grantOne_noRequest (s := runOver s ch due) (firstRequest_none hreq)]
    rfl

/-! ## The requests that stand are served (R142, R143) -/

/-- Without a channel in RUN_ON and with a start lead, one turn of a grant pass acts on the arbiter alone and leaves no
channel in RUN_ON. -/
theorem grantOne_frame {s : State} (h : ∀ ch, (s.channel ch).isRunOn = false) (hlead : 0 < s.dt.settings.startLead) :
    ∃ a, s.grantOne = { s with sa := a } ∧ (∀ ch, (a.channels.chan ch).isRunOn = false) ∧ a.debt = s.sa.debt := by
  unfold State.grantOne
  split
  case h_1 ch b _ _ _ =>
    have hallot : s.allot ch b = started s ch b (s.sa.priority.filter (fun c => decide (c ≠ b)) ++ [b]) := by
      rw [State.allot, h ch]
      refine if_neg ?_
      show ¬ (false || decide (s.dt.settings.startLead = 0)) = true
      simpa using hlead.ne'
    refine ⟨_, hallot, fun c => ?_, rfl⟩
    by_cases hc : c = ch
    · subst hc
      exact congrArg SupplyState.isRunOn (Pair.chan_setChan_same _ _ _)
    · exact (congrArg SupplyState.isRunOn (Pair.chan_setChan_ne _ _ _ _ hc)).trans (h c)
  case h_2 => exact ⟨s.sa, rfl, h, rfl⟩

theorem six_all_set (b : Bay) : ((Six.all false).set b true).set b false = Six.all false := by
  cases b <;> rfl

theorem nodup_split {b : Bay} {x y : List Bay} (h : (x ++ b :: y).Nodup) : b ∉ x ∧ b ∉ y := by
  obtain ⟨-, hcons, hdisj⟩ := List.nodup_append.mp h
  exact ⟨fun hb => hdisj b hb b (List.mem_cons_self) rfl, (List.nodup_cons.mp hcons).1⟩

/-- With both channels IDLE a grant pass acts on the arbiter alone, as `PassServes` says. -/
theorem grantPass_serves {s : State} (ha : s.grantsAllowed = true) (hc : s.sa.channels = ⟨.idle, .idle⟩)
    (hlead : 0 < s.dt.settings.startLead) (hn : s.sa.priority.Nodup) :
    ∃ a, s.grantOne.grantOne = { s with sa := a } ∧
      PassServes s.sa (s.now + 1000 * s.dt.settings.startLead) a ∧ a.debt = s.sa.debt := by
  have hidle : ∀ ch, s.channel ch = .idle := by
    intro ch
    rw [State.channel, hc]
    cases ch <;> rfl
  have hfree1 : s.freeChoice = some .supply1 := by rw [freeChoice_eq, hc]; rfl
  obtain ⟨a1, h1, hrun, hd1⟩ := grantOne_frame (fun ch => congrArg SupplyState.isRunOn (hidle ch)) hlead
  obtain ⟨a2, h2, -, hd2⟩ := grantOne_frame (s := { s with sa := a1 }) hrun hlead
  rw [h1, h2]
  have hpass : ∀ {a' : Arbiter}, s.grantOne.grantOne = { s with sa := a' } → a2 = a' := by
    intro a' h
    rw [h1, h2] at h
    exact congrArg State.sa h
  refine ⟨a2, rfl, ⟨fun b d x y z hp hreq hb hd => hpass ?two, fun b x y hp hreq => hpass ?one,
    fun hreq => hpass ?none⟩, hd2.trans hd1⟩
  case two =>
    have hn' : (x ++ b :: (y ++ d :: z)).Nodup := hp ▸ hn
    obtain ⟨hbx, hbyz⟩ := nodup_split hn'
    have hassoc : x ++ b :: (y ++ d :: z) = (x ++ b :: y) ++ d :: z := by simp
    obtain ⟨hdx, hdz⟩ := nodup_split (hassoc ▸ hn')
    have hdb : d ≠ b := by
      rintro rfl
      exact hbyz (by simp)
    have hfirst := grantOne_starts ha hfree1 (hidle _) hlead hp
      (fun e he => hreq e (List.mem_append_left _ he)) hb hbyz
    rw [hfirst]
    have hreq' : ∀ e, e ≠ b → (s.sa.requests.set b false).get e = s.sa.requests.get e := fun e he =>
      Six.get_set_ne _ _ _ _ he
    have hallowed : (started s .supply1 b (x ++ (y ++ d :: z) ++ [b])).grantsAllowed = true := ha
    rw [grantOne_starts (ch := .supply2) (b := d) (x := x ++ y) (y := z ++ [b]) hallowed]
    · show ({ s with sa := _ } : State) = _
      simp only [started, served, hc, Pair.setChan, List.append_assoc, List.cons_append, List.nil_append]
    · rw [freeChoice_eq]
      show freeOf (s.sa.channels.setChan .supply1 _) = _
      rw [hc]
      rfl
    · show (s.sa.channels.setChan .supply1 _).chan .supply2 = _
      rw [hc]
      rfl
    · exact hlead
    · show x ++ (y ++ d :: z) ++ [b] = _
      simp
    · intro e he
      have heb : e ≠ b := by
        rintro rfl
        rcases List.mem_append.mp he with h | h
        · exact hbx h
        · exact hbyz (List.mem_append_left _ h)
      exact (hreq' e heb).trans (hreq e he)
    · exact (hreq' d hdb).trans hd
    · intro h
      rcases List.mem_append.mp h with h | h
      · exact hdz h
      · exact hdb (List.mem_singleton.mp h)
  case one =>
    obtain ⟨hbx, hby⟩ := nodup_split (hp ▸ hn)
    have hother : ∀ e, e ≠ b → s.sa.requests.get e = false := by
      intro e he
      rw [hreq, Six.get_set_ne _ _ _ _ he, Six.get_all]
    have hfirst := grantOne_starts ha hfree1 (hidle _) hlead hp (fun e he => hother e fun h => hbx (h ▸ he))
      (by rw [hreq]; exact Six.get_set_same _ _ _) hby
    rw [hfirst, grantOne_noRequest]
    · show ({ s with sa := _ } : State) = _
      simp only [started, served, hc, Pair.setChan, hreq, six_all_set]
    · refine firstRequest_none ?_
      show s.sa.requests.set b false = _
      rw [hreq, six_all_set]
  case none =>
    rw [grantOne_noRequest (firstRequest_none hreq), grantOne_noRequest (firstRequest_none hreq)]

/-! ## The fixed-lead cycle (R153, R154) -/

theorem exec_slotEnd {s : State} {due : Nat} (hc : s.sa.cycle = .slot) (he : s.sa.cycleEnd = some due) :
    exec .slotEnd s = Machine.run (s.reach due) (·.endSlot) := by
  show execSlotEnd s = _
  rw [execSlotEnd, if_pos hc, he, onExpiry_some]

/-- The state in which a WINDOW begins, before the grant pass. -/
def windowBegun (s : State) (m : Nat) : State :=
  { s with
    now := m
    sa := { s.sa with
      cycle := .window
      cycleEnd := some (m + 1000 * s.dt.settings.drawMax) } }

theorem slotEnd_settle {s : State} {due : Nat} (hc : s.sa.cycle = .slot) (he : s.sa.cycleEnd = some due) :
    exec .slotEnd s = .next (windowBegun s (max s.now due)).grantOne.grantOne := by
  rw [exec_slotEnd hc he]
  refine run_next (u := windowBegun s (max s.now due)) (ts := [.grantPass]) rfl ?_
  rw [settle_done (Work.handle_grantPass _), Work.settle_done]

theorem endOfWindow_idle {s : State} {ch : Supply} (h : s.channel ch = .idle) : s.endOfWindow ch = s := by
  rw [State.endOfWindow, h]

/-- Settles O54. -/
theorem cycleTurns : Obligations.CycleTurns := by
  intro due s he
  have exec_windowEnd : exec .windowEnd s = execWindowEnd s := rfl
  refine ⟨fun hc hch hd => ?window, fun hc hreq => ?slot, fun hc => ?_, fun hc => ?_⟩
  case window =>
    have h1 : (s.reach due).channel .supply1 = .idle := congrArg Pair.p1 hch
    have h2 : (s.reach due).channel .supply2 = .idle := congrArg Pair.p2 hch
    rw [exec_windowEnd, execWindowEnd, if_pos hc, he, onExpiry_some]
    refine run_of_done ?_
    unfold Work.endWindow
    dsimp only [Work.upd]
    rw [endOfWindow_idle h1, endOfWindow_idle h2]
    refine if_neg ?_
    rw [purgeReady_of_debt]
    · decide
    · exact hd
  case slot =>
    have hnone := grantOne_noRequest (s := windowBegun s (max s.now due)) (firstRequest_none hreq)
    rw [slotEnd_settle hc he, hnone, hnone]
    rfl
  · rw [exec_windowEnd, execWindowEnd, if_neg (by rw [hc]; decide)]
  · show execSlotEnd s = _
    rw [execSlotEnd, if_neg (by rw [hc]; decide)]

/-! ## Grants that end (R144, R145) -/

theorem pause_fields (p : PhaseRun) (now : Nat) :
    (p.pause now).stage = .paused ∧ (p.pause now).freshOpen = false ∧ (p.pause now).recycledOpen = false ∧
      (p.pause now).timeouts = p.timeouts ∧ (p.pause now).fresh = p.fresh ∧ (p.pause now).recycled = p.recycled := by
  unfold PhaseRun.pause PhaseRun.freezeNozzle
  split <;> exact ⟨rfl, rfl, rfl, rfl, rfl, rfl⟩

theorem lostGrant_fields {p : PhaseRun} (now : Nat) (h : p.grant.isSome = true) :
    (p.lostGrant now).stage = .paused ∧ (p.lostGrant now).grant = none ∧ (p.lostGrant now).requested = true ∧
      (p.lostGrant now).freshOpen = false ∧ (p.lostGrant now).recycledOpen = false ∧
      (p.lostGrant now).timeouts = p.timeouts ∧ (p.lostGrant now).fresh = p.fresh ∧
      (p.lostGrant now).recycled = p.recycled := by
  obtain ⟨hst, hfo, hro, ht, hf, hr⟩ := pause_fields p now
  rw [PhaseRun.lostGrant, if_pos h]
  exact ⟨hst, rfl, rfl, hfo, hro, ht, hf, hr⟩

/-- The state in which a channel's grant has been withdrawn, the phase as given. -/
def withdrawn (s : State) (ch : Supply) (b : Bay) (q : PhaseRun) : State :=
  { s with
    sa := { s.sa with
      requests := s.sa.requests.set b true
      channels := s.sa.channels.setChan ch (.runOn (s.now + 1000 * s.dt.settings.runOn)) }
    pr := s.pr.set b { s.pr.get b with plan := some q } }

theorem withdrawn_plan (s : State) (ch : Supply) (b : Bay) (q : PhaseRun) : (withdrawn s ch b q).plan? b = some q :=
  congrArg BayRunner.plan (Six.get_set_same _ _ _)

theorem withdrawn_modPlan (s : State) (ch : Supply) (b : Bay) (q : PhaseRun) (f : PhaseRun → PhaseRun) :
    (withdrawn s ch b q).modPlan b f = withdrawn s ch b (f q) := by
  rw [modPlan_some (withdrawn_plan s ch b q)]
  simp only [withdrawn, Six.get_set_same, six_set_set]

theorem withdrawGrant_eq {s : State} {ch : Supply} {b : Bay} {p : PhaseRun} (hp : s.plan? b = some p)
    (hrun : 0 < s.dt.settings.runOn) : s.withdrawGrant ch b = withdrawn s ch b (p.lostGrant s.now) := by
  rw [State.withdrawGrant, modPlan_some hp]
  exact if_neg hrun.ne'

theorem toRunOn_grantsForbidden {s : State} (hlead : s.dt.settings.leadMode = .variable) (hd : 1 ≤ s.sa.debt) :
    s.grantsAllowed = false := by
  rw [← Bool.not_eq_true, grantsAllowed_iff]
  rintro ⟨-, -, -, hvar, -⟩
  have := hvar hlead
  omega

theorem purgeReady_short {s : State} (h : s.lm.vRec < (s.dt.settings.purgeVolume : Int)) : s.purgeReady = false := by
  have hshort : ¬ (s.settings.purgeVolume : Int) ≤ s.lm.vRec := not_le.mpr h
  simp only [State.purgeReady, hshort, decide_false, Bool.and_false, Bool.false_and]

/-- A withdrawal with a purge due that cannot start brings nothing more. -/
theorem withdrawn_settle {s : State} (hlead : s.dt.settings.leadMode = .variable) (hd : 1 ≤ s.sa.debt)
    (hrec : s.lm.vRec < (s.dt.settings.purgeVolume : Int)) : (Work.mk s [.grantPass, .purgeTest]).settle = s := by
  rw [settle_done (handle_grantPass_forbidden (toRunOn_grantsForbidden hlead hd)),
    settle_done (Work.handle_purgeTest_calm s (purgeReady_short hrec)), Work.settle_done]

/-- Settles O52. -/
theorem grantLost : Obligations.GrantLost := by
  intro ch b p due s hp hst hg hlead hd hrec hrun
  have hsome : p.grant.isSome = true := by rw [hg]; rfl
  obtain ⟨h1, h2, h3, h4, h5, h6, h7, h8⟩ := lostGrant_fields (max s.now due) hsome
  have hwithdraw := withdrawGrant_eq (s := s.reach due) (ch := ch) hp hrun
  refine ⟨fun hch ht => ?timeout, fun since hch => ?cut⟩
  case timeout =>
    have hfew : ¬ 3 ≤ (p.lostGrant (max s.now due)).timeouts + 1 := by omega
    have hwork : (Work.mk (s.reach due) []).grantTimeout ch b = ⟨withdrawn (s.reach due) ch b
        { p.lostGrant (max s.now due) with timeouts := (p.lostGrant (max s.now due)).timeouts + 1 },
        [.grantPass, .purgeTest]⟩ := by
      unfold Work.grantTimeout
      dsimp only [Work.upd]
      rw [hwithdraw]
      show Work.mk _ _ = _
      rw [State.reach_now, withdrawn_modPlan, withdrawn_plan]
      dsimp only
      rw [if_neg hfew]
      rfl
    have hexec : exec (.grantTimeout ch) s = Machine.run (s.reach due) (·.grantTimeout ch b) := by
      show execGrantTimeout ch s = _
      rw [execGrantTimeout, hch]
    rw [hexec, run_next hwork (withdrawn_settle (s := withdrawn (s.reach due) ch b _) hlead hd hrec)]
    exact ⟨_, _, rfl, rfl, Pair.chan_setChan_same _ _ _, Six.get_set_same _ _ _, rfl,
      withdrawn_plan _ _ _ _, h1, h2, h3, h4, h5,
      congrArg (· + 1) h6, h7, h8, fun c hc => Six.get_set_ne _ _ _ _ hc⟩
  case cut =>
    have hexec : exec (.drawMaxCut ch) s = Machine.run (s.reach due) (·.cutDraw ch b) := by
      show execDrawMaxCut ch s = _
      rw [execDrawMaxCut, hch]
    have hwork : (Work.mk (s.reach due) []).cutDraw ch b =
        ⟨withdrawn (s.reach due) ch b (p.lostGrant (max s.now due)), [.grantPass, .purgeTest]⟩ := by
      unfold Work.cutDraw
      dsimp only [Work.upd]
      rw [hwithdraw]
      rfl
    rw [hexec, run_next hwork (withdrawn_settle (s := withdrawn (s.reach due) ch b _) hlead hd hrec)]
    exact ⟨_, _, rfl, rfl, Pair.chan_setChan_same _ _ _, Six.get_set_same _ _ _, rfl,
      withdrawn_plan _ _ _ _, h1, h2, h3, h4, h5, h6, h7, h8, fun c hc => Six.get_set_ne _ _ _ _ hc⟩

/-! ## A purge completes (R151, R163) -/

/-- The state in which a purge is complete. -/
def purged (s : State) (cart : Cart) (moved : Nat) (reclaim : Bool) (nt : PurgeNotice) : State :=
  { s with
    sa := { s.sa with
      purge := none
      debt := s.sa.debt - 1
      pointer := cart }
    lm := { s.lm with
      vRec := s.lm.vRec - moved
      vSet := s.lm.vSet + moved
      reclaim := reclaim }
    qs := { s.qs with holdTimer := some (s.now + 30000) }
    cu := { s.cu with totals := { s.cu.totals with purges := min 4294967295 (s.cu.totals.purges + 1) } }
    lp := (s.notify (.purge nt)).lp }

theorem purgeLitres_eq {s : State} (h : 0 ≤ s.lm.vRec) :
    (s.purgeLitres : Int) = min (s.dt.settings.purgeVolume : Int) s.lm.vRec := by
  unfold State.purgeLitres State.settings
  split <;> omega

/-- The state in which a purge's water has gone from the tank to the pit. -/
def transferred (s : State) : State :=
  (s.modArbiter fun a => { a with purge := none }).modLoop fun l =>
    { l with vRec := l.vRec - s.purgeLitres, vSet := l.vSet + s.purgeLitres }

theorem completePurge_eq {s : State} (cart : Cart) (h : s.lm.vSet + s.purgeLitres ≤ s.dt.settings.pitCapacity) :
    ∃ (reclaim : Bool) (nt : PurgeNotice), nt.cart = cart ∧ nt.debt = s.sa.debt - 1 ∧
      (Work.mk s []).completePurge cart = ⟨purged s cart s.purgeLitres reclaim nt, [.grantPass, .purgeTest]⟩ := by
  have hfits : (transferred s).overflow .purge = transferred s := if_pos h
  have htransfer : (s.modArbiter fun a => { a with purge := none }).purgeTransfer = (transferred s).decideReclaim := by
    rw [← hfits]
    rfl
  refine ⟨(transferred s).reclaimOn, ⟨cart, s.purgeLitres, s.sa.debt - 1, nextCart s.dt.settings.cartMask cart,
    s.dt.settings.leadMode, s.lm.vRec - s.purgeLitres, s.lm.vSet + s.purgeLitres⟩, rfl, rfl, ?_⟩
  unfold Work.completePurge
  dsimp only
  rw [htransfer]
  simp only [State.startHoldTimer, State.countPurge, State.decideReclaim, State.modArbiter, State.modLoop,
    State.modSampler, State.modCharges, Work.after, List.nil_append]
  rfl

theorem exec_purgeCompletion {s : State} {cart : Cart} {due : Nat} (h : s.sa.purge = some ⟨cart, due⟩) :
    exec .purgeCompletion s = Machine.run (s.reach due) (·.completePurge cart) := by
  show execPurgeCompletion s = _
  rw [execPurgeCompletion, h]

/-- The completion of the last purge owed: a grant pass and a purge start test on the state it leaves. -/
theorem purgeCompletion_last {s : State} {cart : Cart} {due : Nat} (h : s.sa.purge = some ⟨cart, due⟩)
    (hd : s.sa.debt = 1) (hv : 0 ≤ s.lm.vRec)
    (hfit : s.lm.vSet + min (s.dt.settings.purgeVolume : Int) s.lm.vRec ≤ s.dt.settings.pitCapacity) :
    ∃ reclaim nt, nt.cart = cart ∧ nt.debt = 0 ∧
      exec .purgeCompletion s = .next
        (Work.mk (purged (s.reach due) cart s.purgeLitres reclaim nt).grantOne.grantOne [.purgeTest]).settle := by
  have hlitres := purgeLitres_eq hv
  obtain ⟨reclaim, nt, hcart, hnt, hwork⟩ := completePurge_eq (s := s.reach due) cart (by
    show s.lm.vSet + (s.purgeLitres : Int) ≤ _
    rw [hlitres]
    exact hfit)
  have hnt' : nt.debt = 0 := by
    rw [hnt]
    show s.sa.debt - 1 = 0
    omega
  refine ⟨reclaim, nt, hcart, hnt', ?_⟩
  rw [exec_purgeCompletion h]
  refine run_next hwork ?_
  rw [settle_done (Work.handle_grantPass _)]
  rfl

theorem requestsServed : Clause.RequestsServed := by
  rintro due m s rfl hmode hlead hn
  refine ⟨fun hfix hslot hend hpurge hrec => ⟨fun hch => ?idle, fun ch e b p x y hch hfirst hp hreq hplan hst hr => ?runOn⟩,
    fun cart hvar hpurge hd hch hrec hfit => ?purge⟩
  case idle =>
    have hallowed : (windowBegun s (max s.now due)).grantsAllowed = true :=
      grantsAllowed_iff.mpr ⟨hmode, hpurge, hrec, fun h => absurd (h.symm.trans hfix) (by decide), fun _ => rfl⟩
    obtain ⟨a, ha, hserves, -⟩ := grantPass_serves (s := windowBegun s (max s.now due)) hallowed hch hlead hn
    rw [slotEnd_settle hslot hend, ha]
    exact ⟨a, rfl, hserves⟩
  case runOn =>
    have hallowed : (windowBegun s (max s.now due)).grantsAllowed = true :=
      grantsAllowed_iff.mpr ⟨hmode, hpurge, hrec, fun h => absurd (h.symm.trans hfix) (by decide), fun _ => rfl⟩
    obtain ⟨hbx, hby⟩ := nodup_split (hp ▸ hn)
    have hfree : (windowBegun s (max s.now due)).freeChoice = some ch := by
      rw [freeChoice_eq]
      show freeOf s.sa.channels = _
      cases ch with
      | supply1 =>
        have h1 : s.sa.channels.p1 = .runOn e := hch
        rw [freeOf, h1]
        rfl
      | supply2 =>
        have h1 : s.sa.channels.p1 = .idle := hfirst.resolve_left (by decide)
        have h2 : s.sa.channels.p2 = .runOn e := hch
        rw [freeOf, h1, h2]
        rfl
    have hother : ∀ c ∈ x, s.sa.requests.get c = false := by
      intro c hc
      have hcb : c ≠ b := by
        rintro rfl
        exact hbx hc
      rw [hreq, Six.get_set_ne _ _ _ _ hcb, Six.get_all]
    have hgrant := grantOne_grants (s := windowBegun s (max s.now due)) (ch := ch) (e := e) hallowed hfree hch hp hother
      (by rw [show (windowBegun s (max s.now due)).sa.requests = _ from hreq]; exact Six.get_set_same _ _ _) hby hplan
    obtain ⟨h1, h2, h3, h4, -, h6, h7⟩ := granted_fields (max s.now due) ch hst hr
    have hcleared : s.sa.requests.set b false = Six.all false := by rw [hreq, six_all_set]
    rw [slotEnd_settle hslot hend, hgrant, grantOne_noRequest]
    · refine ⟨_, _, rfl, rfl, ?_, congrArg BayRunner.plan (Six.get_set_same _ _ _), h1, h2, h3, h4, h6, h7,
        fun c hc => Six.get_set_ne _ _ _ _ hc⟩
      rw [← hcleared]
      rfl
    · exact firstRequest_none hcleared
  case purge =>
    have hv : 0 ≤ s.lm.vRec := by omega
    have hlitres := purgeLitres_eq hv
    obtain ⟨reclaim, nt, -, -, hexec⟩ := purgeCompletion_last hpurge hd hv hfit
    have hrec' : (s.dt.settings.reserveFloor : Int) < s.lm.vRec - s.purgeLitres := by rw [hlitres]; exact hrec
    have hdebt : s.sa.debt - 1 = 0 := by omega
    have hallowed : (purged (s.reach due) cart s.purgeLitres reclaim nt).grantsAllowed = true :=
      grantsAllowed_iff.mpr ⟨hmode, rfl, hrec', fun _ => hdebt, fun h => absurd (h.symm.trans hvar) (by decide)⟩
    obtain ⟨a, ha, hserves, ha0⟩ :=
      grantPass_serves (s := purged (s.reach due) cart s.purgeLitres reclaim nt) hallowed hch hlead hn
    have hready : ({ purged (s.reach due) cart s.purgeLitres reclaim nt with sa := a } : State).purgeReady = false :=
      purgeReady_of_debt (ha0.trans hdebt)
    rw [hexec, ha, settle_done (Work.handle_purgeTest_calm _ hready), Work.settle_done]
    refine ⟨_, rfl, rfl, ?_, ?_, ?_, rfl, rfl, rfl, rfl, rfl, rfl⟩
    · have hsa : (purged (s.reach due) cart s.purgeLitres reclaim nt).sa =
          { s.sa with purge := none, debt := 0, pointer := cart } := by
        show ({ s.sa with purge := none, debt := s.sa.debt - 1, pointer := cart } : Arbiter) = _
        rw [hdebt]
      rw [← hsa]
      exact hserves
    · show s.lm.vRec - (s.purgeLitres : Int) = _
      rw [hlitres]
    · show s.lm.vSet + (s.purgeLitres : Int) = _
      rw [hlitres]

/-- Settles O51. -/
theorem grantBeginsRunOnEnds : Obligations.GrantBeginsRunOnEnds := ⟨grantBegins, channelAllotted, requestsServed⟩

theorem execPurgeTimerExpiry_eq (s : State) : exec .purgeTimerExpiry s = onExpiry s s.sa.purgeTimer (·.purgeTimer) := rfl

/-- The state in which the purge timer has run out and runs again. -/
def purgeDue (s : State) : State :=
  { s with sa := { s.sa with
    debt := min 3 (s.sa.debt + 1)
    purgeTimer := some (s.now + 1000 * s.dt.settings.spacing) } }

theorem purgeTimer_eq (s : State) :
    (Work.mk s []).purgeTimer = ⟨purgeDue s, if decide (s.sa.debt < 3) then [.purgeTest] else []⟩ := rfl

/-- With no purge start, the purge timer raises the debt alone. -/
theorem purgeTimer_settle {s : State} {due : Nat} (h : s.sa.purgeTimer = some due)
    (hcalm : s.sa.debt < 3 → ∀ u, u = purgeDue (s.reach due) → (Work.mk u []).handle .purgeTest = ⟨u, []⟩) :
    exec .purgeTimerExpiry s = .next (purgeDue (s.reach due)) := by
  rw [execPurgeTimerExpiry_eq, h, onExpiry_some]
  refine run_next (purgeTimer_eq _) ?_
  split
  case isTrue hd => rw [settle_done (hcalm (of_decide_eq_true hd) _ rfl), Work.settle_done]
  case isFalse => exact Work.settle_done _

theorem purgesDone : Clause.PurgesDone := by
  intro due s
  refine ⟨fun h hfix => ?fixed, fun h => ?noTimer, fun h => ?noPurge, fun cart hp hd hreq hv hfit => ?completes⟩
  case fixed =>
    refine purgeTimer_settle h fun _ u hu => if_neg ?_
    rintro ⟨hvar, -⟩
    have hlead : u.dt.settings.leadMode = .fixed := by rw [hu]; exact hfix
    exact absurd (hvar.symm.trans hlead) (by decide)
  case noTimer => rw [execPurgeTimerExpiry_eq, h, onExpiry_none]
  case noPurge =>
    show execPurgeCompletion s = _
    rw [execPurgeCompletion, h]
  case completes =>
    have hlitres := purgeLitres_eq hv
    have hdebt : s.sa.debt - 1 = 0 := by omega
    obtain ⟨reclaim, nt, hcart, hnt, hexec⟩ := purgeCompletion_last hp hd hv hfit
    have hnone := grantOne_noRequest (s := purged (s.reach due) cart s.purgeLitres reclaim nt) (firstRequest_none hreq)
    have hready := purgeReady_of_debt (s := purged (s.reach due) cart s.purgeLitres reclaim nt) hdebt
    rw [hnone, hnone, settle_done (Work.handle_purgeTest_calm _ hready), Work.settle_done] at hexec
    refine ⟨_, nt, hexec, ?_, ?_, rfl, ?_, rfl, rfl, rfl, hcart, hnt, rfl, rfl, rfl, rfl, rfl⟩
    · show s.lm.vRec - (s.purgeLitres : Int) = _
      rw [hlitres]
    · show s.lm.vSet + (s.purgeLitres : Int) = _
      rw [hlitres]
    · show ({ s.sa with purge := none, debt := s.sa.debt - 1, pointer := cart } : Arbiter) = _
      rw [hdebt]

/-! ## A purge starts (R149, R117) -/

theorem demands_none {s : State} (h : NoDemand s) : s.qs.demands = Six.all none :=
  six_ext fun b => (h b).trans (Six.get_all _ _).symm

/-- With no demand standing none is satisfied. -/
theorem satisfyAll_none {q : Sampler} (h : q.demands = Six.all none) (ch : Channel) (r : Reading) :
    q.satisfyAll ch r = q := by
  obtain ⟨readings, converter, demands, held, timer⟩ := q
  obtain rfl : demands = Six.all none := h
  rfl

theorem answers_none {s : State} (h : NoDemand s) : s.answers = [] := by
  rw [State.answers, List.filterMap_eq_nil_iff]
  intro b _
  rw [State.bayAnswer, h b]
  rfl

theorem discardCh1_other {s : State} (h : ∀ u, s.qs.converter ≠ .converting .ch1 u) : s.discardCh1 = s := by
  unfold State.discardCh1
  split
  case h_1 u hu => exact absurd hu (h u)
  case h_2 => rfl

/-- The state in which CH1 is held. -/
def turbidityHeld (s : State) : State :=
  { s with qs := { s.qs with
    readings := s.qs.readings.setCh .ch1 { s.qs.readings.getCh .ch1 with valid := false }
    ch1Held := true
    holdTimer := none } }

theorem holdTurbidity_quiet {s : State} {ts : List Task} (hn : NoDemand s) (hc : ∀ u, s.qs.converter ≠ .converting .ch1 u) :
    (Work.mk s ts).holdTurbidity = ⟨turbidityHeld s, ts⟩ := by
  have hheld : s.holdCh1 = turbidityHeld s := by
    unfold State.holdCh1
    dsimp only
    rw [discardCh1_other]
    · exact congrArg (fun q => ({ s with qs := q } : State)) (satisfyAll_none (q := (turbidityHeld s).qs) (demands_none hn) _ _)
    · exact hc
  have hans : (turbidityHeld s).answers = [] := answers_none hn
  unfold Work.holdTurbidity
  dsimp only
  rw [hheld, hans]
  exact congrArg (Work.mk _) (List.append_nil ts)

theorem purgeReady_iff {s : State} :
    s.purgeReady = true ↔ 1 ≤ s.sa.debt ∧ s.sa.channels.p1.busy = false ∧ s.sa.channels.p2.busy = false ∧
      (s.dt.settings.purgeVolume : Int) ≤ s.lm.vRec ∧ (s.lm.mode = .opened ∨ s.lm.mode = .hold) ∧ s.sa.purge = none := by
  have hmode : washes s.mode = true ↔ s.lm.mode = .opened ∨ s.lm.mode = .hold := by
    rw [State.mode_eq]
    cases s.lm.mode <;> simp [washes]
  unfold State.purgeReady State.settings
  simp only [Bool.and_eq_true, Bool.not_eq_true', decide_eq_true_eq, hmode, Option.isNone_iff_eq_none, and_assoc]

theorem purgeStarts : Clause.PurgeStarts := by
  rintro due m s h hvar rfl
  refine ⟨fun hd h1 h2 hv hmode hp hn hc => ?starts, fun hno => ?rises⟩
  case starts =>
    have hready : (purgeDue (s.reach due)).purgeReady = true := by
      refine purgeReady_iff.mpr ⟨?_, h1, h2, hv, hmode, hp⟩
      show 1 ≤ min 3 (s.sa.debt + 1)
      omega
    have htest : (Work.mk (purgeDue (s.reach due)) []).handle .purgeTest =
        ⟨turbidityHeld (purgeDue (s.reach due)).putPurge, []⟩ :=
      (if_pos ⟨hvar, hready⟩).trans (holdTurbidity_quiet (s := (purgeDue (s.reach due)).putPurge) hn hc)
    have hrise : min 3 (s.sa.debt + 1) = s.sa.debt + 1 := by omega
    rw [execPurgeTimerExpiry_eq, h, onExpiry_some]
    refine run_next (purgeTimer_eq _) ?_
    rw [if_pos (decide_eq_true (show (s.reach due).sa.debt < 3 from hd)), settle_done htest, Work.settle_done, ← hrise]
    rfl
  case rises =>
    refine purgeTimer_settle h fun hd u hu => Work.handle_purgeTest_calm u ?_
    rw [← Bool.not_eq_true, purgeReady_iff, hu]
    rintro ⟨-, h1, h2, hv, hmode, hp⟩
    rcases hno with h | h | h | h | ⟨ho, hh⟩ | h
    · omega
    · exact absurd (h.symm.trans h1) (by decide)
    · exact absurd (h.symm.trans h2) (by decide)
    · exact absurd hv (not_le.mpr h)
    · exact hmode.elim ho hh
    · exact h hp

/-- Settles O53. -/
theorem purgesDueAndDone : Obligations.PurgesDueAndDone := ⟨purgesDone, purgeStarts⟩

end Sys2Proof.Proofs.SupplyChannels
end

section
/-!
The depot modes: what a change of mode tells the blocks of a depot at rest, the rest tests of its bays, and the drains
(R66, R167 to R175).
-/

namespace Sys2Proof.Proofs.DepotModes

open Sys2Proof Sys2Proof.Machine Sys2Proof.Safety Sys2Proof.Proofs.Running Sys2Proof.Proofs.Bays Sys2Proof.Proofs.Tables
  Sys2Proof.Proofs.LoopBook

set_option Elab.async false

/-! ## The lanes and the calls at a change of mode (R34, R71) -/

theorem laneMode_idle {w : Work} {l : Lane} (h : (w.s.gu.get l).state = .idle) (old new : DepotMode) :
    w.laneMode old new l = w := by
  simp only [Work.laneMode, h]

theorem gateMode_idle {w : Work} (h : LanesIdle w.s) (old new : DepotMode) : w.gateMode old new = w := by
  rw [Work.gateMode, laneMode_idle (h .lane1), laneMode_idle (h .lane2)]

/-- With nothing called, nothing is withdrawn. -/
theorem withdrawAll_none {w : Work} (h : w.s.vq.called = []) : w.withdrawAll = w := by
  have hall : w.s.withdrawable = [] := by rw [State.withdrawable, h]; rfl
  obtain ⟨s, ts⟩ := w
  have hcalled : s.modCalled (·.filter fun n => !([] : List Nat).contains n) = s := by
    show { s with vq := { s.vq with called := s.vq.called.filter _ } } = s
    rw [show s.vq.called = [] from h]
    show { s with vq := { s.vq with called := [] } } = s
    rw [← show s.vq.called = [] from h]
  unfold Work.withdrawAll
  simp only [hall, List.take_nil, List.drop_nil, List.map_nil, Work.upd, Work.silent, List.foldl_nil, Work.after,
    List.isEmpty_nil, if_true, List.append_nil, hcalled]
  rfl

theorem withdrawCalls_none {w : Work} (h : w.s.vq.called = []) (old new : DepotMode) : w.withdrawCalls old new = w := by
  unfold Work.withdrawCalls
  split
  · exact withdrawAll_none h
  · rfl

/-! ## The rest tests of every bay (R66) -/

/-- The rest test leaves a bay with this record as it is. -/
def RestStays (mode : DepotMode) (r : BayRecord) : Prop :=
  r.state = .closed ∨ r.state = .empty → restResult r.service r.lineFilled mode = r.state ∧ r.service ≠ .outPending

theorem restTestFrom_still {s : State} {b : Bay}
    (hres : restResult (s.bc.get b).service (s.bc.get b).lineFilled s.lm.mode = (s.bc.get b).state)
    (hsvc : (s.bc.get b).service ≠ .outPending) (ts : List Task) (left : BayState) (released : Option Nat) :
    (Work.mk s ts).restTestFrom b left released = ⟨s, ts⟩ := by
  have htested : (s.bc.get b).service.afterTest = (s.bc.get b).service := by
    revert hsvc
    cases (s.bc.get b).service <;> simp [ServiceFlag.afterTest]
  unfold Work.restTestFrom
  dsimp only
  rw [State.mode_eq, if_pos hres]
  show Work.mk { s with bc := s.bc.set b { s.bc.get b with service := (s.bc.get b).service.afterTest } } ts = _
  rw [htested, six_set_get]

theorem restTestIfFree_still {w : Work} {b : Bay} (h : RestStays w.s.lm.mode (w.s.bc.get b)) : w.restTestIfFree b = w := by
  have hstill : (w.s.bc.get b).state = .closed ∨ (w.s.bc.get b).state = .empty → w.restTest b none = w := by
    intro hst
    obtain ⟨hres, hsvc⟩ := h hst
    exact restTestFrom_still hres hsvc _ _ _
  unfold Work.restTestIfFree
  split
  · exact hstill (Or.inl ‹_›)
  · exact hstill (Or.inr ‹_›)
  · rfl

theorem foldl_restTest_still {w : Work} {l : List Bay} (h : ∀ b ∈ l, RestStays w.s.lm.mode (w.s.bc.get b)) :
    l.foldl Work.restTestIfFree w = w := by
  induction l with
  | nil => rfl
  | cons b rest ih =>
    obtain ⟨hb, hrest⟩ := List.forall_mem_cons.mp h
    rw [List.foldl_cons, restTestIfFree_still hb, ih hrest]

theorem restTests_still {w : Work} (h : ∀ b, RestStays w.s.lm.mode (w.s.bc.get b)) : w.restTests = w :=
  foldl_restTest_still fun b _ => h b

/-- The bays before a bay and those after it. -/
theorem bays_around (b : Bay) : ∃ x y, Bay.all = x ++ b :: y ∧ ∀ c, c ∈ x ∨ c ∈ y → c ≠ b := by
  obtain ⟨x, y, hxy⟩ := List.append_of_mem (mem_bays b)
  have hn : (x ++ b :: y).Nodup := hxy ▸ (by decide : Bay.all.Nodup)
  obtain ⟨hx, hy⟩ := SupplyChannels.nodup_split hn
  refine ⟨x, y, hxy, ?_⟩
  rintro c (hc | hc) rfl
  · exact hx hc
  · exact hy hc

/-- One CLOSED bay comes to EMPTY at the rest tests, the others staying. -/
theorem restTests_empty {s : State} {b : Bay} {ts : List Task} (hst : (s.bc.get b).state = .closed)
    (hsvc : (s.bc.get b).service = .inService) (hfilled : (s.bc.get b).lineFilled = true)
    (hm : washes s.lm.mode = true) (hw : (s.bc.get b).wheelStop = false) (hr : (s.bc.get b).rearBeam = false)
    (hothers : ∀ c, c ≠ b → RestStays s.lm.mode (s.bc.get c)) :
    (Work.mk s ts).restTests = ⟨emptied s b .closed none, ts ++ [.matchPass]⟩ := by
  obtain ⟨x, y, hxy, hne⟩ := bays_around b
  have htest : (Work.mk s ts).restTestIfFree b = ⟨emptied s b .closed none, ts ++ [.matchPass]⟩ := by
    simp only [Work.restTestIfFree, Work.restTest, hst]
    refine restTestFrom_empty ?_ (by rw [hst]; decide) hw hr
    rw [hsvc, hfilled]
    simp [restResult, hm]
  have hstays : ∀ c ∈ y, RestStays s.lm.mode ((emptied s b .closed none).bc.get c) := by
    intro c hc
    rw [show (emptied s b .closed none).bc.get c = s.bc.get c from Six.get_set_ne _ _ _ _ (hne c (Or.inr hc))]
    exact hothers c (hne c (Or.inr hc))
  rw [Work.restTests, hxy, List.foldl_append,
    foldl_restTest_still (w := Work.mk s ts) fun c hc => hothers c (hne c (Or.inl hc)), List.foldl_cons, htest]
  exact foldl_restTest_still (w := Work.mk (emptied s b .closed none) _) hstays

/-- The bays as OPEN and HOLD leave them. -/
theorem restStays_of_steady {s : State} (h : BaysSteady s) {mode : DepotMode} (hm : washes mode = true) (b : Bay) :
    RestStays mode (s.bc.get b) := by
  obtain ⟨hempty, hclosed⟩ := h b
  rintro (hst | hst)
  · rw [hclosed hst, hst]
    exact ⟨rfl, nofun⟩
  · obtain ⟨hsvc, hfilled⟩ := hempty hst
    rw [hsvc, hfilled, hst]
    exact ⟨by simp [restResult, hm], nofun⟩

/-! ## A change of mode (R169, R170, R175) -/

/-- What the supply and the reclaim pump make of a mode (R147, R156, R164). -/
def toldSupply (s : State) (new : DepotMode) : State :=
  (if circulates new then (if s.sa.purgeTimer.isSome then s else s.startPurgeTimer)
    else s.modArbiter fun a => { a with purgeTimer := none }).decideReclaim

/-- The consequences of a mode that the blocks take up. -/
def modeTasks (new : DepotMode) : List Task :=
  (if new = .opened then [.matchPass] else []) ++ if washes new then [.grantPass, .purgeTest] else []

theorem tellMode_eq {w : Work} {u : State} {ts : List Task} (hl : LanesIdle w.s) (hc : w.s.vq.called = [])
    (hr : w.restTests = ⟨u, ts⟩) (old new : DepotMode) :
    w.tellMode old new = ⟨toldSupply u new, ts ++ modeTasks new⟩ := by
  unfold Work.tellMode
  rw [gateMode_idle hl, withdrawCalls_none hc, hr]
  cases new <;> simp [Work.openPass, Work.supplyMode, Work.upd, Work.after, toldSupply, modeTasks, washes]

/-- MODE, as a state tells it. -/
def modeTold (s : State) (left : DepotMode) (cause : ModeCause) (drained cut : Option Nat) : ModeNotice :=
  ⟨s.lm.mode, left, cause, s.lm.holdOrigin, s.lm.drainPending.isSome, s.timerLeft s.lm.deferral,
    (s.qs.readings.getCh .ch5).value, (s.qs.readings.getCh .ch5).clamp, drained, cut⟩

theorem modeNotice_eq (s : State) (left : DepotMode) (cause : ModeCause) (drained cut : Option Nat) :
    s.modeNotice left cause drained cut = s.notify (.mode (modeTold s left cause drained cut)) := rfl

theorem changeMode_eq {s u : State} {ts us : List Task} {new : DepotMode} {origin : Option HoldOrigin} (hl : LanesIdle s)
    (hc : s.vq.called = []) (hr : (Work.mk (s.putMode new origin) ts).restTests = ⟨u, us⟩) (cause : ModeCause) :
    (Work.mk s ts).changeMode new origin cause =
      ⟨(toldSupply u new).modeNotice s.lm.mode cause none none,
        us ++ modeTasks new ++ if new = .refill then [.refillChoice] else []⟩ := by
  have htold := tellMode_eq (w := Work.mk (s.putMode new origin) ts) hl hc hr s.mode new
  unfold Work.changeMode
  dsimp only [Work.upd]
  rw [htold]
  split
  · rfl
  · rw [List.append_nil]
    rfl

/-- The consequences of a mode have nothing to do in a depot at rest. -/
theorem settle_modeTasks {s : State} (hq : s.vq.queue = []) (hr : s.sa.requests = Six.all false) (hd : s.sa.debt = 0)
    (new : DepotMode) : (Work.mk s (modeTasks new)).settle = s := by
  refine settle_still fun t ht => ?_
  have hcases : t = .matchPass ∨ t = .grantPass ∨ t = .purgeTest := by
    unfold modeTasks at ht
    rcases List.mem_append.mp ht with h | h <;> split at h <;> simp_all
  rcases hcases with rfl | rfl | rfl
  · exact Work.handle_matchPass_empty s hq
  · exact handle_grantPass_calm hr
  · exact Work.handle_purgeTest_calm s (purgeReady_of_debt hd)

/-- The purge timer in a mode: it runs in the modes that circulate. -/
def purgeTimerIn (s : State) (new : DepotMode) : Option Nat :=
  if circulates new then some (s.sa.purgeTimer.getD (s.now + 1000 * s.dt.settings.spacing)) else none

/-- The state that a mode leaves whose rest tests change nothing. -/
theorem toldSupply_eq (s : State) (new : DepotMode) : ∃ reclaim, toldSupply s new = { s with
    sa := { s.sa with purgeTimer := purgeTimerIn s new }
    lm := { s.lm with reclaim := reclaim } } := by
  unfold toldSupply purgeTimerIn
  split
  · cases h : s.sa.purgeTimer with
    | none => exact ⟨_, rfl⟩
    | some due =>
      refine ⟨s.reclaimOn, ?_⟩
      have hsa : s.sa = { s.sa with purgeTimer := some due } := by rw [← h]
      show { s with lm := _ } = { s with sa := { s.sa with purgeTimer := some due }, lm := _ }
      rw [← hsa]
      rfl
  · exact ⟨_, rfl⟩

/-- A change of mode in a depot whose rest tests change nothing, its lanes idle and nothing called. -/
theorem changeMode_still {s : State} {ts : List Task} {new : DepotMode} {origin : Option HoldOrigin} (hl : LanesIdle s)
    (hc : s.vq.called = []) (hb : ∀ b, RestStays new (s.bc.get b)) (cause : ModeCause) :
    (Work.mk s ts).changeMode new origin cause =
      ⟨(toldSupply (s.putMode new origin) new).modeNotice s.lm.mode cause none none,
        ts ++ modeTasks new ++ if new = .refill then [.refillChoice] else []⟩ :=
  changeMode_eq hl hc (restTests_still (w := Work.mk (s.putMode new origin) ts) hb) cause

/-! ## Drains asked for (R173) -/

/-- A drain is pending, its deferral timer running. -/
def drainAsked (s : State) (cause : ModeCause) : State :=
  s.modLoop fun l =>
    { l with drainPending := some cause, deferral := some (s.now + 1000 * s.dt.settings.deferralMax) }

theorem askDrain_hold {s : State} {ts : List Task} (hm : s.lm.mode = .hold) (hw : s.anyWashing = true)
    (cause : ModeCause) :
    (Work.mk s ts).askDrain cause =
      ⟨(drainAsked s cause).notify (.mode (modeTold (drainAsked s cause) .hold cause none none)), ts⟩ := by
  have hold : s.mode = .hold := hm
  simp only [Work.askDrain, hw, if_true, hold, reduceCtorEq, if_false]
  rfl

/-- The persist timer has stopped. -/
def persistStopped (s : State) : State := s.modLoop fun l => { l with persist := none }

theorem persistExpiry_pending {s : State} {ts : List Task} (h : s.lm.drainPending ≠ none) :
    (Work.mk s ts).persistExpiry = ⟨persistStopped s, ts⟩ := by
  have hsome : s.lm.drainPending.isSome = true := Option.isSome_iff_ne_none.mpr h
  show (if (s.lm.drainPending.isSome || decide (s.lm.mode = .drain)) = true then _ else _) = _
  rw [hsome]
  rfl

theorem persistExpiry_asks {s : State} {ts : List Task} (h : s.lm.drainPending = none) (hm : s.lm.mode ≠ .drain) :
    (Work.mk s ts).persistExpiry = (Work.mk (persistStopped s) ts).askDrain .frost := by
  show (if (s.lm.drainPending.isSome || decide (s.lm.mode = .drain)) = true then _ else _) = _
  rw [h, decide_eq_false hm]
  rfl

/-- Settles O56. -/
theorem persistTimerAsksDrain : Obligations.PersistTimerAsksDrain := by
  intro due s h
  have exec_persistTimerExpiry : exec .persistTimerExpiry s = onExpiry s s.lm.persist (·.persistExpiry) := rfl
  rw [exec_persistTimerExpiry, h, onExpiry_some]
  refine ⟨fun hm hw hd => ?asks, fun hd => run_of_done (persistExpiry_pending (s := s.reach due) hd)⟩
  case asks =>
    have hmode : (s.reach due).lm.mode ≠ .drain := by
      show s.lm.mode ≠ .drain
      rw [hm]
      decide
    exact ⟨modeTold (drainAsked (persistStopped (s.reach due)) .frost) .hold .frost none none, hm, rfl, rfl, rfl,
      run_of_done ((persistExpiry_asks (s := s.reach due) hd hmode).trans
        (askDrain_hold (s := persistStopped (s.reach due)) hm hw .frost))⟩

/-! ## SET_MODE: OPEN and HOLD (R169) -/

theorem wantMode_same {s : State} {ts : List Task} {new : DepotMode} (h : s.lm.mode = new) :
    (Work.mk s ts).wantMode new = ⟨s.dropDrain.putMode new (if new = .hold then some .host else none), ts⟩ :=
  if_pos h

theorem wantMode_other {s : State} {ts : List Task} {new : DepotMode} (h : s.lm.mode ≠ new) :
    (Work.mk s ts).wantMode new =
      (Work.mk s.dropDrain ts).changeMode new (if new = .hold then some .host else none) .host :=
  if_neg h

theorem owner_wantMode {w : Work} {new : DepotMode} {force : Bool} (h : new ≠ .drain) (hr : new ≠ .refill) :
    w.owner (.setMode (.fields ⟨some new, force⟩)) = (w.wantMode new, .modeNow) := by
  cases new with
  | drain => exact absurd rfl h
  | refill => exact absurd rfl hr
  | _ => rfl

/-- OPEN with no origin, and HOLD with origin HOST. -/
theorem wanted_origin {new : DepotMode} {origin : Option HoldOrigin}
    (h : (new = .opened ∧ origin = none) ∨ (new = .hold ∧ origin = some .host)) :
    washes new = true ∧ new ≠ .drain ∧ new ≠ .refill ∧ (if new = .hold then some .host else none) = origin := by
  rcases h with ⟨rfl, rfl⟩ | ⟨rfl, rfl⟩ <;> exact ⟨rfl, nofun, nofun, rfl⟩

/-- What SET_MODE leaves before the wanted mode is told. -/
def wanted (s : State) (new : DepotMode) (origin : Option HoldOrigin) : State := s.dropDrain.putMode new origin

theorem toldSupply_withHeld (s : State) (l : List Held) (new : DepotMode) :
    toldSupply (withHeld s l) new = withHeld (toldSupply s new) l := by
  unfold toldSupply
  split
  · cases h : s.sa.purgeTimer <;> simp only [withHeld, State.modLink, h] <;> rfl
  · rfl

theorem modeNotice_withHeld (s : State) (l : List Held) (left : DepotMode) (cause : ModeCause)
    (drained cut : Option Nat) :
    (withHeld s l).modeNotice left cause drained cut = withHeld (s.modeNotice left cause drained cut) l :=
  notify_withHeld _ _ _

theorem emptied_withHeld (s : State) (l : List Held) (b : Bay) (left : BayState) (released : Option Nat) :
    emptied (withHeld s l) b left released = withHeld (emptied s b left released) l :=
  congrArg (fun v => { emptied s b left released with lp := v.lp }) (notify_withHeld s l _)

/-- SET_MODE to another mode of the four, told and settled. -/
theorem exec_setMode {s u : State} {tag : Byte} {new : DepotMode} {force : Bool} {origin : Option HoldOrigin}
    {us : List Task} (hs : LinkReady s) (hm : s.lm.mode ≠ new) (hd : new ≠ .drain) (hf : new ≠ .refill)
    (ho : (if new = .hold then some .host else none) = origin) (hl : LanesIdle s) (hc : s.vq.called = [])
    (hr : ∀ held, (Work.mk (withHeld (wanted s new origin) held) []).restTests = ⟨withHeld u held, us⟩)
    (hset : ∀ v : State, v.vq = u.vq → v.sa.requests = u.sa.requests → v.sa.debt = u.sa.debt →
      (Work.mk v (us ++ modeTasks new)).settle = v) (hh : u.lp.holding = []) (hu : u.lm.mode = new)
    (hup : u.lm.drainPending = none) :
    exec (.setMode tag (.fields ⟨some new, force⟩)) s =
      .next (((toldSupply u new).modeNotice s.lm.mode .host none none).answer ⟨0x90, tag, .ok, .mode new false⟩) := by
  obtain ⟨reclaim, htold⟩ := toldSupply_eq u new
  have howner : ∀ held, (Work.mk (withHeld s held) []).owner (.setMode (.fields ⟨some new, force⟩)) =
      (⟨withHeld ((toldSupply u new).modeNotice s.lm.mode .host none none) held, us ++ modeTasks new⟩, .modeNow) := by
    intro held
    have hother := wantMode_other (s := withHeld s held) (ts := []) (new := new) hm
    rw [owner_wantMode hd hf, hother, ho, changeMode_eq (s := (withHeld s held).dropDrain) hl hc (hr held), if_neg hf,
      List.append_nil, toldSupply_withHeld, modeNotice_withHeld]
    rfl
  rw [exec_settled (r := .setMode (.fields ⟨some new, force⟩)) rfl hs (howner _) (hset _ ?_ ?_ ?_) ?_]
  · show Host.Outcome.next (State.answer _ ⟨0x90, tag, .ok, .mode (toldSupply u new).lm.mode
      (toldSupply u new).lm.drainPending.isSome⟩) = _
    rw [htold]
    show Host.Outcome.next (State.answer _ ⟨0x90, tag, .ok, .mode u.lm.mode u.lm.drainPending.isSome⟩) = _
    rw [hu, hup]
    rfl
  · rw [htold]; rfl
  · rw [htold]; rfl
  · rw [htold]; rfl
  · rw [htold]; exact (notify_holding _ _).trans hh

/-- OPEN or HOLD wanted in another mode, with the bays as it leaves them. -/
theorem modeWanted_steady {s : State} {tag : Byte} {force : Bool} {new : DepotMode} {origin : Option HoldOrigin}
    (hs : LinkReady s) (hnew : (new = .opened ∧ origin = none) ∨ (new = .hold ∧ origin = some .host)) (hl : LanesIdle s)
    (hc : NoCall s) (hcalm : SupplyCalm s) (hm : s.lm.mode ≠ new) (hb : BaysSteady s) :
    exec (.setMode tag (.fields ⟨some new, force⟩)) s =
      .next (((toldSupply (wanted s new origin) new).modeNotice s.lm.mode .host none none).answer
        ⟨0x90, tag, .ok, .mode new false⟩) := by
  obtain ⟨hwashes, hdrain, hrefill, horigin⟩ := wanted_origin hnew
  obtain ⟨hqueue, hcalled⟩ := hc
  obtain ⟨hrequests, hdebt⟩ := hcalm
  exact exec_setMode (u := wanted s new origin) hs hm hdrain hrefill horigin hl hcalled
    (fun held => restTests_still (w := Work.mk (withHeld (wanted s new origin) held) [])
      (restStays_of_steady hb hwashes))
    (fun v hv hvr hvd => settle_modeTasks (by rw [hv]; exact hqueue) (hvr.trans hrequests) (hvd.trans hdebt) new)
    hs.1 rfl rfl

/-- OPEN or HOLD wanted in another mode, one bay coming to EMPTY. -/
theorem modeWanted_empties {s : State} {tag : Byte} {force : Bool} {new : DepotMode} {origin : Option HoldOrigin}
    {b : Bay} (hs : LinkReady s) (hnew : (new = .opened ∧ origin = none) ∨ (new = .hold ∧ origin = some .host))
    (hl : LanesIdle s) (hc : NoCall s) (hcalm : SupplyCalm s) (hm : s.lm.mode ≠ new)
    (hst : (s.bc.get b).state = .closed) (hsvc : (s.bc.get b).service = .inService)
    (hfilled : (s.bc.get b).lineFilled = true) (hw : (s.bc.get b).wheelStop = false)
    (hr : (s.bc.get b).rearBeam = false)
    (hothers : ∀ c, c ≠ b → (s.bc.get c).state = .closed ∧ (s.bc.get c).service = .outOfService) :
    exec (.setMode tag (.fields ⟨some new, force⟩)) s =
      .next (((toldSupply (emptied (wanted s new origin) b .closed none) new).modeNotice s.lm.mode .host none none).answer
        ⟨0x90, tag, .ok, .mode new false⟩) := by
  obtain ⟨hwashes, hdrain, hrefill, horigin⟩ := wanted_origin hnew
  obtain ⟨hqueue, hcalled⟩ := hc
  obtain ⟨hrequests, hdebt⟩ := hcalm
  have hstays : ∀ c, c ≠ b → RestStays new (s.bc.get c) := by
    intro c hne _
    obtain ⟨hstate, hservice⟩ := hothers c hne
    rw [hstate, hservice]
    exact ⟨rfl, nofun⟩
  have htests : ∀ held, (Work.mk (withHeld (wanted s new origin) held) []).restTests =
      ⟨withHeld (emptied (wanted s new origin) b .closed none) held, [.matchPass]⟩ := by
    intro held
    rw [restTests_empty (s := withHeld (wanted s new origin) held) hst hsvc hfilled hwashes hw hr hstays,
      emptied_withHeld]
    rfl
  refine exec_setMode hs hm hdrain hrefill horigin hl hcalled htests (fun v hv hvr hvd => ?_)
    ((notify_holding _ _).trans hs.1) rfl rfl
  have hq : v.vq.queue = [] := by rw [hv]; exact hqueue
  exact (settle_done (Work.handle_matchPass_empty v hq)).trans
    (settle_modeTasks hq (hvr.trans hrequests) (hvd.trans hdebt) new)

/-- OPEN or HOLD wanted in that mode. -/
theorem modeWanted_same {s : State} {tag : Byte} {force : Bool} {new : DepotMode} {origin : Option HoldOrigin}
    (hs : LinkReady s) (hnew : (new = .opened ∧ origin = none) ∨ (new = .hold ∧ origin = some .host))
    (hm : s.lm.mode = new) :
    exec (.setMode tag (.fields ⟨some new, force⟩)) s =
      .next ((wanted s new origin).answer ⟨0x90, tag, .ok, .mode new false⟩) := by
  obtain ⟨-, hdrain, hrefill, horigin⟩ := wanted_origin hnew
  have howner : ∀ held, (Work.mk (withHeld s held) []).owner (.setMode (.fields ⟨some new, force⟩)) =
      (⟨withHeld (wanted s new origin) held, []⟩, .modeNow) := by
    intro held
    have hsame := wantMode_same (s := withHeld s held) (ts := []) (new := new) hm
    rw [owner_wantMode hdrain hrefill, hsame, horigin]
    rfl
  exact exec_settled (r := .setMode (.fields ⟨some new, force⟩)) rfl hs (howner _) (Work.settle_done _) hs.1

theorem modeOpenHold : Clause.ModeOpenHold := by
  intro tag force new origin s hs hnew hl hc hcalm
  have hcirc : circulates new = true := by
    rcases hnew with ⟨rfl, -⟩ | ⟨rfl, -⟩ <;> rfl
  refine ⟨fun hm hb => ?steady, fun b hm hst hsvc hfilled hw hr hothers => ?empties, fun hm ho => ?same⟩
  case steady =>
    obtain ⟨reclaim, htold⟩ := toldSupply_eq (wanted s new origin) new
    refine ⟨_, modeTold (toldSupply (wanted s new origin) new) s.lm.mode .host none none,
      modeWanted_steady hs hnew hl hc hcalm hm hb, ?_⟩
    rw [htold, purgeTimerIn, if_pos hcirc]
    exact ⟨rfl, rfl, rfl, rfl, rfl, rfl, rfl⟩
  case empties =>
    obtain ⟨reclaim, htold⟩ := toldSupply_eq (emptied (wanted s new origin) b .closed none) new
    have hexec := modeWanted_empties (tag := tag) (force := force) hs hnew hl hc hcalm hm hst hsvc hfilled hw hr hothers
    have hbay := Six.get_set_same s.bc b (emptyRecord (s.bc.get b))
    generalize hnt : modeTold (toldSupply (emptied (wanted s new origin) b .closed none) new) s.lm.mode .host none none = nt
    have hstate : (toldSupply (emptied (wanted s new origin) b .closed none) new).modeNotice s.lm.mode .host none none =
        { s with
          bc := s.bc.set b (emptyRecord (s.bc.get b))
          lp := ((s.notify (.bayState (bayStateNotice (emptyRecord (s.bc.get b)) b .closed none))).notify (.mode nt)).lp
          sa := { s.sa with purgeTimer := purgeTimerIn (wanted s new origin) new }
          lm := { (wanted s new origin).lm with reclaim := reclaim } } := by
      rw [modeNotice_eq, hnt, htold]
      rfl
    rw [hstate] at hexec
    refine ⟨_, nt, bayStateNotice (emptyRecord (s.bc.get b)) b .closed none, hexec, congrArg BayRecord.state hbay,
      congrArg BayRecord.lastFault hbay, fun c hne => Six.get_set_ne s.bc _ _ _ hne, rfl, rfl, rfl, rfl, ?_, ?_, rfl, rfl,
      rfl, rfl, rfl, rfl, rfl⟩
    · rw [← hnt, htold]
      rfl
    · rw [← hnt]
      rfl
  case same =>
    have hwanted : wanted s new origin = { s with lm := { s.lm with
        holdOrigin := origin, drainPending := none, deferral := none } } := by
      rw [← hm]
      rfl
    rw [modeWanted_same hs hnew hm, hwanted]

/-! ## The modes that wash nothing: every bay at rest is CLOSED (R66) -/

/-- A loop over bays that does to the state what `g` says and leaves the tasks; what it tells goes to the link, and it
tells nothing where `Q` holds. -/
theorem foldl_told {f : Work → Bay → Work} {g : State → Bay → State} {P Q : State → Prop}
    (hlink : ∀ s lp b, g { s with lp := lp } b = { g s b with lp := lp })
    (hP : ∀ s lp b, P s → P { g s b with lp := lp }) (hQ : ∀ s lp b, Q s → Q { g s b with lp := lp })
    (hf : ∀ s ts b, P s → ∃ lp, f ⟨s, ts⟩ b = ⟨{ g s b with lp := lp }, ts⟩ ∧ (Q s → lp = s.lp))
    (l : List Bay) (s : State) (ts : List Task) (hs : P s) :
    ∃ lp, l.foldl f ⟨s, ts⟩ = ⟨{ l.foldl g s with lp := lp }, ts⟩ ∧ (Q s → lp = s.lp) := by
  have hfold : ∀ (l : List Bay) (s : State) lp, l.foldl g { s with lp := lp } = { l.foldl g s with lp := lp } := by
    intro l
    induction l with
    | nil => exact fun s lp => rfl
    | cons b rest ih =>
      intro s lp
      rw [List.foldl_cons, List.foldl_cons, hlink, ih]
  induction l generalizing s with
  | nil => exact ⟨s.lp, rfl, fun _ => rfl⟩
  | cons b rest ih =>
    obtain ⟨lp, hstep, htold⟩ := hf s ts b hs
    obtain ⟨lp', hrest, htold'⟩ := ih _ (hP s lp b hs)
    refine ⟨lp', ?_, fun hq => (htold' (hQ s lp b hq)).trans (htold hq)⟩
    rw [List.foldl_cons, hstep, hrest, hfold, List.foldl_cons]

/-- The record of a bay after its rest test in a mode that does not wash. -/
def shutBay (r : BayRecord) : BayRecord :=
  if r.state = .closed then { r with service := r.service.afterTest }
  else if r.state = .empty then { r with service := r.service.afterTest }.restIn .closed
  else r

def shutStep (s : State) (b : Bay) : State := { s with bc := s.bc.set b (shutBay (s.bc.get b)) }

theorem shutBay_fields (r : BayRecord) : (shutBay r).lineFilled = r.lineFilled ∧
    (shutBay r).state = (if r.state = .empty then .closed else r.state) ∧
    (r.state ≠ .empty → (shutBay r).held = r.held ∧ (shutBay r).releaseHold = r.releaseHold) := by
  unfold shutBay
  split
  case isTrue h => exact ⟨rfl, by simp [h], fun _ => ⟨rfl, rfl⟩⟩
  case isFalse h =>
    split
    case isTrue h => exact ⟨rfl, by simp [BayRecord.restIn], fun h' => absurd h h'⟩
    case isFalse h => exact ⟨rfl, rfl, fun _ => ⟨rfl, rfl⟩⟩

theorem restResult_shut {mode : DepotMode} (h : washes mode = false) (service : ServiceFlag) (filled : Bool) :
    restResult service filled mode = .closed := by
  have hopen : mode ≠ .opened := by
    rintro rfl
    exact absurd h (by decide)
  cases service <;> simp [restResult, h, hopen]

theorem restTestIfFree_shut {s : State} (hm : washes s.lm.mode = false) (ts : List Task) (b : Bay) :
    ∃ lp, (Work.mk s ts).restTestIfFree b = ⟨{ shutStep s b with lp := lp }, ts⟩ ∧
      ((s.bc.get b).state ≠ .empty → lp = s.lp) := by
  have hres := restResult_shut hm (s.bc.get b).service (s.bc.get b).lineFilled
  unfold Work.restTestIfFree shutStep
  split
  case h_1 hst =>
    have hst : (s.bc.get b).state = .closed := hst
    refine ⟨s.lp, ?_, fun _ => rfl⟩
    rw [Work.restTest, Work.restTestFrom, State.mode_eq, hres, hst, if_pos rfl, shutBay, if_pos hst]
    rfl
  case h_2 hst =>
    have hst : (s.bc.get b).state = .empty := hst
    have hshut : ¬ (s.bc.get b).state = .closed := by rw [hst]; decide
    have hne : ¬ BayState.closed = .empty := by decide
    rw [Work.restTest, Work.restTestFrom, State.mode_eq, hres, hst, if_neg hne, shutBay, if_neg hshut, if_pos hst]
    simp only [Work.upd, State.enterClosed, modBay_modBay]
    exact ⟨_, rfl, fun h => absurd rfl h⟩
  case h_3 hclosed hempty =>
    refine ⟨s.lp, ?_, fun _ => rfl⟩
    have hclosed : ¬ (s.bc.get b).state = .closed := hclosed
    have hempty : ¬ (s.bc.get b).state = .empty := hempty
    rw [shutBay, if_neg hclosed, if_neg hempty, six_set_get]

/-- Every bay after the rest tests of a mode that does not wash. -/
def shutBays (v : Six BayRecord) : Six BayRecord := Bay.all.foldl (fun v b => v.set b (shutBay (v.get b))) v

theorem shutBays_get (v : Six BayRecord) (b : Bay) : (shutBays v).get b = shutBay (v.get b) := by
  cases b <;> rfl

theorem shutBay_not_empty (r : BayRecord) : (shutBay r).state ≠ .empty := by
  obtain ⟨-, hstate, -⟩ := shutBay_fields r
  rw [hstate]
  split <;> simp_all

theorem shutStep_not_empty {s : State} (h : ∀ c, (s.bc.get c).state ≠ .empty) (b c : Bay) :
    ((shutStep s b).bc.get c).state ≠ .empty := by
  unfold shutStep
  rw [six_get_set]
  split
  · exact shutBay_not_empty _
  · exact h c

theorem foldl_shutStep (l : List Bay) (s : State) :
    l.foldl shutStep s = { s with bc := l.foldl (fun v b => v.set b (shutBay (v.get b))) s.bc } := by
  induction l generalizing s with
  | nil => rfl
  | cons b rest ih => rw [List.foldl_cons, ih, List.foldl_cons, shutStep]

theorem restTests_shut {s : State} (hm : washes s.lm.mode = false) (ts : List Task) :
    ∃ lp, (Work.mk s ts).restTests = ⟨{ s with bc := shutBays s.bc, lp := lp }, ts⟩ ∧
      ((∀ b, (s.bc.get b).state ≠ .empty) → lp = s.lp) := by
  obtain ⟨lp, htests, hlp⟩ := foldl_told (f := Work.restTestIfFree) (g := shutStep)
    (P := fun s => washes s.lm.mode = false) (Q := fun s => ∀ b, (s.bc.get b).state ≠ .empty) (fun _ _ _ => rfl)
    (fun _ _ _ h => h) (fun _ _ b h => shutStep_not_empty h b)
    (fun _ ts b h => (restTestIfFree_shut h ts b).imp fun _ ⟨hstep, htold⟩ => ⟨hstep, fun h => htold (h b)⟩)
    Bay.all s ts hm
  rw [foldl_shutStep] at htests
  exact ⟨lp, htests, hlp⟩

/-- Where the mode does not circulate, the purge timer and the reclaim pump stop. -/
theorem toldSupply_stopped {s : State} {new : DepotMode} (h : circulates new = false) (hm : s.lm.mode = new) :
    toldSupply s new = { s with sa := { s.sa with purgeTimer := none }, lm := { s.lm with reclaim := false } } := by
  have hoff : (s.modArbiter fun a => { a with purgeTimer := none }).reclaimOn = false := by
    show (circulates s.lm.mode && _ && _) = false
    rw [hm, h]
    rfl
  have hno : ¬ circulates new = true := by rw [h]; exact Bool.false_ne_true
  rw [toldSupply, if_neg hno, State.decideReclaim, hoff]
  rfl

/-! ## SET_MODE CLOSED and its refusals (R169) -/

theorem modeClosed : Clause.ModeClosed := by
  intro tag force s hs
  refine ⟨fun hm hl hc hb => ?closes, ?range, fun h => ?refused⟩
  case closes =>
    have hempty : ∀ b, ((wanted s .closed none).bc.get b).state ≠ .empty := fun b => (hb b).1
    have htests : ∀ held, (Work.mk (withHeld (wanted s .closed none) held) []).restTests =
        ⟨withHeld { wanted s .closed none with bc := shutBays s.bc } held, []⟩ := by
      intro held
      obtain ⟨lp, htests, hlp⟩ := restTests_shut (s := withHeld (wanted s .closed none) held) rfl []
      rw [htests, hlp hempty]
      rfl
    have hexec := exec_setMode (tag := tag) (force := force) (origin := none)
      (u := { wanted s .closed none with bc := shutBays s.bc }) hs hm nofun nofun rfl hl hc htests
      (fun v _ _ _ => Work.settle_done v) hs.1 rfl rfl
    rw [toldSupply_stopped (s := { wanted s .closed none with bc := shutBays s.bc }) (new := .closed) rfl rfl] at hexec
    refine ⟨_, modeTold _ _ _ _ _, hexec, rfl, rfl, rfl, rfl, rfl, rfl, rfl, rfl, rfl, rfl, rfl,
      rfl, rfl, rfl, fun b => ?_⟩
    obtain ⟨hfilled, hstate, hheld⟩ := shutBay_fields (s.bc.get b)
    show ((shutBays s.bc).get b).state = _ ∧ ((shutBays s.bc).get b).held = _ ∧ ((shutBays s.bc).get b).lineFilled = _
    rw [shutBays_get]
    exact ⟨hstate.trans (if_neg (hempty b)), (hheld (hempty b)).1, hfilled⟩
  case range => exact exec_says (r := .setMode (.fields ⟨none, force⟩)) rfl hs fun w _ => rfl
  case refused =>
    refine exec_says (r := .setMode (.fields ⟨some .refill, force⟩)) rfl hs fun w hw => ?_
    have hrefused : w.s.refillRefused = true := by
      rw [hw]
      show (!(s.qs.readings.getCh .ch5).valid ||
        decide ((s.qs.readings.getCh .ch5).value < s.dt.settings.holdThreshold)) = true
      rcases h with h | h
      · rw [h]; rfl
      · rw [decide_eq_true h, Bool.or_true]
    show w.reqSetMode _ = _
    simp only [Work.reqSetMode, Work.withBody, hrefused, if_true]
    rfl

/-! ## The entry to DRAIN of a depot with nothing queued or called (R168, R174) -/

/-- The record of a bay whose filled lines have been drained. -/
def drainedBay (r : BayRecord) : BayRecord := if r.lineFilled then shutBay { r with lineFilled := false } else r

theorem drainedBay_fields (r : BayRecord) : (drainedBay r).lineFilled = false ∧
    ((drainedBay r).state = r.state ∨ (drainedBay r).state = if r.state = .empty then .closed else r.state) ∧
    (r.state ≠ .empty → (drainedBay r).held = r.held ∧ (drainedBay r).releaseHold = r.releaseHold) := by
  unfold drainedBay
  split
  case isTrue h =>
    obtain ⟨hfilled, hstate, hheld⟩ := shutBay_fields { r with lineFilled := false }
    exact ⟨hfilled, Or.inr hstate, hheld⟩
  case isFalse h => exact ⟨Bool.eq_false_of_not_eq_true h, Or.inl rfl, fun _ => ⟨rfl, rfl⟩⟩

theorem drainedBay_not_empty {r : BayRecord} (h : r.state ≠ .empty) : (drainedBay r).state ≠ .empty := by
  obtain ⟨-, hstate, -⟩ := drainedBay_fields r
  rw [if_neg h] at hstate
  rw [hstate.elim id id]
  exact h

/-- The book when the lines of a bay, filled or not, have been drained. -/
def drainedLine (l : Loop) (b : Bay) (filled : Bool) : Loop :=
  { l with
    drained := l.drained + l.heldLine.get b
    heldLine := l.heldLine.set b 0
    drainValve := l.drainValve.set b (filled || l.drainValve.get b) }

def drainStep (s : State) (b : Bay) : State :=
  { s with
    bc := s.bc.set b (drainedBay (s.bc.get b))
    lm := drainedLine s.lm b (s.bc.get b).lineFilled }

/-- A mode that does not wash, and no water in lines that are not filled. -/
def LinesDrain (s : State) : Prop :=
  washes s.lm.mode = false ∧ ∀ b, (s.bc.get b).lineFilled = false → s.lm.heldLine.get b = 0

theorem linesDrain_step {s : State} (h : LinesDrain s) (b : Bay) : LinesDrain (drainStep s b) := by
  obtain ⟨hm, hlines⟩ := h
  refine ⟨hm, fun c hc => ?_⟩
  show (s.lm.heldLine.set b 0).get c = 0
  rw [six_get_set]
  split
  · rfl
  · refine hlines c ?_
    rw [show (drainStep s b).bc.get c = s.bc.get c from Six.get_set_ne _ _ _ _ ‹_›] at hc
    exact hc

theorem drainStep_not_empty {s : State} (h : ∀ c, (s.bc.get c).state ≠ .empty) (b c : Bay) :
    ((drainStep s b).bc.get c).state ≠ .empty := by
  unfold drainStep
  rw [six_get_set]
  split
  · exact drainedBay_not_empty (h b)
  · exact h c

theorem drainBay_eq {s : State} (h : LinesDrain s) (ts : List Task) (b : Bay) :
    ∃ lp, (Work.mk s ts).drainBay b = ⟨{ drainStep s b with lp := lp }, ts⟩ ∧
      ((s.bc.get b).state ≠ .empty → lp = s.lp) := by
  obtain ⟨hm, hlines⟩ := h
  cases hfilled : (s.bc.get b).lineFilled with
  | true =>
    obtain ⟨lp, htest, hlp⟩ := restTestIfFree_shut (s := s.drainLine b) hm ts b
    have hbay : (s.drainLine b).bc.get b = { s.bc.get b with lineFilled := false } := Six.get_set_same _ _ _
    refine ⟨lp, ?_, fun hne => hlp (by rw [hbay]; exact hne)⟩
    have hbays : (shutStep (s.drainLine b) b).bc = s.bc.set b (drainedBay (s.bc.get b)) := by
      show (s.drainLine b).bc.set b (shutBay ((s.drainLine b).bc.get b)) = _
      rw [hbay, drainedBay, if_pos hfilled]
      exact six_set_set _ _ _ _
    have hstep : { shutStep (s.drainLine b) b with lp := lp } = { drainStep s b with lp := lp } := by
      rw [drainStep, ← hbays, hfilled]
      rfl
    rw [← hstep, ← htest]
    exact if_pos hfilled
  | false =>
    refine ⟨s.lp, ?_, fun _ => rfl⟩
    have hline : drainedLine s.lm b false = s.lm := by
      have hzero : s.lm.heldLine.set b 0 = s.lm.heldLine := by
        rw [← hlines b hfilled, six_set_get]
      rw [drainedLine, hzero, hlines b hfilled, Bool.false_or, six_set_get]
      rfl
    have hstep : { drainStep s b with lp := s.lp } = s := by
      rw [drainStep, drainedBay, hfilled, hline]
      show { s with bc := s.bc.set b (s.bc.get b) } = s
      rw [six_set_get]
    rw [hstep]
    exact if_neg (by rw [hfilled]; exact Bool.false_ne_true)

/-- Every bay drained. -/
def drainedBays (v : Six BayRecord) : Six BayRecord := Bay.all.foldl (fun v b => v.set b (drainedBay (v.get b))) v

/-- The drain valves: those of the lines drained are open. -/
def drainValves (v : Six BayRecord) (d : Six Bool) : Six Bool :=
  Bay.all.foldl (fun d b => d.set b ((v.get b).lineFilled || d.get b)) d

theorem drainedBays_get (v : Six BayRecord) (b : Bay) : (drainedBays v).get b = drainedBay (v.get b) := by
  cases b <;> rfl

theorem drainValves_get (v : Six BayRecord) (d : Six Bool) (b : Bay) :
    (drainValves v d).get b = ((v.get b).lineFilled || d.get b) := by
  cases b <;> rfl

theorem foldl_drainStep {l : List Bay} (hl : l.Nodup) (s : State) : l.foldl drainStep s = { s with
    bc := l.foldl (fun v b => v.set b (drainedBay (v.get b))) s.bc
    lm := l.foldl (fun m b => drainedLine m b (s.bc.get b).lineFilled) s.lm } := by
  induction l generalizing s with
  | nil => rfl
  | cons b rest ih =>
    obtain ⟨hb, hrest⟩ := List.nodup_cons.mp hl
    have hother : ∀ c ∈ rest, (drainStep s b).bc.get c = s.bc.get c := by
      intro c hc
      refine Six.get_set_ne _ _ _ _ ?_
      rintro rfl
      exact hb hc
    have hloop : rest.foldl (fun m c => drainedLine m c ((drainStep s b).bc.get c).lineFilled) (drainStep s b).lm =
        rest.foldl (fun m c => drainedLine m c (s.bc.get c).lineFilled) (drainStep s b).lm :=
      List.foldl_ext _ _ _ fun m c hc => by rw [hother c hc]
    rw [List.foldl_cons, ih hrest, hloop]
    rfl

theorem drainedLine_all (l : Loop) (filled : Bay → Bool) (valves : Six Bool)
    (hv : valves = Bay.all.foldl (fun d b => d.set b (filled b || d.get b)) l.drainValve) :
    Bay.all.foldl (fun m b => drainedLine m b (filled b)) l = { l with
      drained := l.drained + l.heldLine.toList.sum
      heldLine := Six.all 0
      drainValve := valves } := by
  have hsum : l.drained + l.heldLine.toList.sum = l.drained + l.heldLine.s1 + l.heldLine.s2 + l.heldLine.s3 +
      l.heldLine.s4 + l.heldLine.s5 + l.heldLine.s6 := by
    simp only [Six.toList, List.sum_cons, List.sum_nil]
    omega
  rw [hsum, hv]
  simp only [Bay.all, List.foldl_cons, List.foldl_nil, drainedLine, Six.set, Six.get, Six.all]

theorem drainStep_all (s : State) : Bay.all.foldl drainStep s = { s with
    bc := drainedBays s.bc
    lm := { s.lm with
      drained := s.lm.drained + s.vLines
      heldLine := Six.all 0
      drainValve := drainValves s.bc s.lm.drainValve } } := by
  rw [foldl_drainStep (by decide), drainedLine_all s.lm (fun b => (s.bc.get b).lineFilled) _ rfl]
  rfl

/-- The state of a depot that has entered DRAIN, before MODE. -/
def drainState (s : State) (lp : Link) : State :=
  { s with
    lp := lp
    bc := shutBays (drainedBays s.bc)
    sa := { s.sa with purgeTimer := none }
    lm := { s.lm with
      mode := .drain
      holdOrigin := none
      reclaim := false
      drained := s.lm.drained + s.vLines
      heldLine := Six.all 0
      drainValve := drainValves s.bc s.lm.drainValve } }

theorem drainState_bay (s : State) (lp : Link) (b : Bay) :
    ((drainState s lp).bc.get b).lineFilled = false ∧
      ((drainState s lp).bc.get b).state = (if (s.bc.get b).state = .empty then .closed else (s.bc.get b).state) ∧
      ((s.bc.get b).state ≠ .empty → ((drainState s lp).bc.get b).held = (s.bc.get b).held ∧
        ((drainState s lp).bc.get b).releaseHold = (s.bc.get b).releaseHold) := by
  have hbay : (drainState s lp).bc.get b = shutBay (drainedBay (s.bc.get b)) := by
    rw [← drainedBays_get, ← shutBays_get]
    rfl
  obtain ⟨hfilled, hstate, hheld⟩ := drainedBay_fields (s.bc.get b)
  obtain ⟨hfilled', hstate', hheld'⟩ := shutBay_fields (drainedBay (s.bc.get b))
  rw [hbay]
  refine ⟨hfilled'.trans hfilled, ?_, fun hne => ?_⟩
  · rw [hstate']
    rcases hstate with h | h <;> rw [h]
    by_cases he : (s.bc.get b).state = .empty
    · rw [if_pos he]; rfl
    · rw [if_neg he, if_neg he]
  · have hne' := drainedBay_not_empty hne
    exact ⟨(hheld' hne').1.trans (hheld hne).1, (hheld' hne').2.trans (hheld hne).2⟩

theorem cancelAll_none {s : State} {ts : List Task} (h : NoCall s) : (Work.mk s ts).cancelAll = ⟨s, ts⟩ := by
  obtain ⟨hq, hc⟩ := h
  have hgone : s.vq.queue ++ s.vq.called = [] := by rw [hq, hc]; rfl
  simp only [Work.cancelAll, hgone, List.foldl_nil, List.isEmpty_nil, if_true, Work.silent, Work.upd, Work.after,
    List.append_nil]

/-- The state in which DRAIN stands and the lines have been drained. -/
def linesDrained (s : State) (lp : Link) : State :=
  { s with
    lp := lp
    bc := drainedBays s.bc
    lm := { s.lm with
      mode := .drain
      holdOrigin := none
      drained := s.lm.drained + s.vLines
      heldLine := Six.all 0
      drainValve := drainValves s.bc s.lm.drainValve } }

/-- Steps 2 to 6 of the entry to DRAIN with nothing queued or called and the lanes idle. -/
theorem drainRest_quiet {s : State} (hl : LanesIdle s) (hc : NoCall s)
    (hlines : ∀ b, (s.bc.get b).lineFilled = false → s.lm.heldLine.get b = 0) (ts : List Task) (cut : Nat)
    (cause : ModeCause) :
    ∃ lp, (Work.mk s ts).drainRest cut cause =
      ⟨(drainState s lp).modeNotice s.lm.mode cause (some s.vLines) (some cut), ts⟩ ∧
      ((∀ b, (s.bc.get b).state ≠ .empty) → lp = s.lp) := by
  obtain ⟨lp, hdrained, hlp⟩ := foldl_told (f := Work.drainBay) (g := drainStep) (P := LinesDrain)
    (Q := fun s => ∀ b, (s.bc.get b).state ≠ .empty) (fun _ _ _ => rfl) (fun _ _ b h => linesDrain_step h b)
    (fun _ _ b h => drainStep_not_empty h b)
    (fun _ ts b h => (drainBay_eq h ts b).imp fun _ ⟨hstep, htold⟩ => ⟨hstep, fun h => htold (h b)⟩)
    Bay.all (s.putMode .drain none) ts ⟨rfl, hlines⟩
  rw [drainStep_all] at hdrained
  obtain ⟨lp', htests, hlp'⟩ := restTests_shut (s := linesDrained s lp) rfl ts
  have htold := tellMode_eq (w := Work.mk (linesDrained s lp) ts) hl hc.2 htests s.lm.mode .drain
  rw [toldSupply_stopped (s := { linesDrained s lp with bc := shutBays (linesDrained s lp).bc, lp := lp' })
    (new := .drain) rfl rfl] at htold
  refine ⟨lp', ?_, fun hne => ?_⟩
  · have hrest : (Work.mk s ts).drainRest cut cause =
        ((Bay.all.foldl Work.drainBay (Work.mk (s.putMode .drain none) ts).cancelAll).tellMode s.lm.mode .drain).upd
          (·.modeNotice s.lm.mode cause (some s.vLines) (some cut)) := rfl
    have hfold : Bay.all.foldl Work.drainBay (Work.mk (s.putMode .drain none) ts) = ⟨linesDrained s lp, ts⟩ := hdrained
    rw [hrest, cancelAll_none (s := s.putMode .drain none) hc, hfold, htold]
    show Work.mk _ (ts ++ []) = _
    rw [List.append_nil]
    rfl
  · have hne' : ∀ b, ((linesDrained s lp).bc.get b).state ≠ .empty := by
      intro b
      show ((drainedBays s.bc).get b).state ≠ .empty
      rw [drainedBays_get]
      exact drainedBay_not_empty (hne b)
    exact (hlp' hne').trans (hlp hne)

/-- The state in which a drain begins: no drain is pending and the frost timers are stopped. -/
def drainBegun (s : State) : State :=
  s.modLoop fun l => { l with drainPending := none, deferral := none, persist := none }

theorem enterDrain_eq (s : State) (ts : List Task) (cause : ModeCause) :
    (Work.mk s ts).enterDrain cause = ⟨drainBegun s, ts ++ [.drainCuts Bay.all 0 cause]⟩ := rfl

/-- Bays without a phase are passed over. -/
theorem drainCuts_none {s : State} {x y : List Bay} (h : ∀ b ∈ x, s.plan? b = none) (cut : Nat) (cause : ModeCause)
    (ts : List Task) :
    (Work.mk s (.drainCuts (x ++ y) cut cause :: ts)).settle = (Work.mk s (.drainCuts y cut cause :: ts)).settle := by
  induction x with
  | nil => rfl
  | cons b rest ih =>
    obtain ⟨hb, hrest⟩ := List.forall_mem_cons.mp h
    have hstep : (Work.mk s []).handle (.drainCuts ((b :: rest) ++ y) cut cause) =
        ⟨s, [.drainCuts (rest ++ y) cut cause]⟩ := by
      show (Work.mk s []).drainCuts (b :: (rest ++ y)) cut cause = _
      simp only [Work.drainCuts, hb]
      rfl
    rw [settle_cons hstep]
    exact ih hrest

theorem drainCuts_last {s : State} (cut : Nat) (cause : ModeCause) (ts : List Task) :
    (Work.mk s (.drainCuts [] cut cause :: ts)).settle = (Work.mk s (.drainRest cut cause :: ts)).settle :=
  settle_cons (ts := [.drainRest cut cause]) rfl

/-- DRAIN entered with no phase running. -/
theorem drain_settle {s : State} (hp : NoPhase s) (hl : LanesIdle s) (hc : NoCall s)
    (hlines : ∀ b, (s.bc.get b).lineFilled = false → s.lm.heldLine.get b = 0)
    (hempty : ∀ b, (s.bc.get b).state ≠ .empty) (cause : ModeCause) :
    (Work.mk s [.drainCuts Bay.all 0 cause]).settle =
      (drainState s s.lp).modeNotice s.lm.mode cause (some s.vLines) (some 0) := by
  obtain ⟨lp, hrest, hlp⟩ := drainRest_quiet hl hc hlines [] 0 cause
  rw [hlp hempty] at hrest
  have hcuts := drainCuts_none (s := s) (x := Bay.all) (y := []) (fun b _ => hp b) 0 cause []
  rw [List.append_nil] at hcuts
  have hhandle : (Work.mk s []).handle (.drainRest 0 cause) =
      ⟨(drainState s s.lp).modeNotice s.lm.mode cause (some s.vLines) (some 0), []⟩ := hrest
  rw [hcuts, drainCuts_last, settle_done hhandle, Work.settle_done]

/-! ## SET_MODE DRAIN (R169, R173, R174) -/

theorem wantDrain_eq {w : Work} {force : Bool} :
    w.owner (.setMode (.fields ⟨some .drain, force⟩)) = (w.wantDrain force, .modeNow) := rfl

theorem wantDrain_drained {w : Work} (h : w.s.lm.mode = .drain) (force : Bool) : w.wantDrain force = w := if_pos h

theorem wantDrain_pending {w : Work} (hm : w.s.lm.mode ≠ .drain) (h : w.s.lm.drainPending ≠ none) :
    w.wantDrain false = w := by
  have hsome : w.s.lm.drainPending.isSome = true := Option.isSome_iff_ne_none.mpr h
  unfold Work.wantDrain
  rw [State.mode_eq, if_neg hm, if_neg Bool.false_ne_true, if_pos hsome]

theorem wantDrain_asks {w : Work} (hm : w.s.lm.mode ≠ .drain) (h : w.s.lm.drainPending = none) :
    w.wantDrain false = w.askDrain .host := by
  have hno : ¬ w.s.lm.drainPending.isSome = true := by rw [h]; exact Bool.false_ne_true
  unfold Work.wantDrain
  rw [State.mode_eq, if_neg hm, if_neg Bool.false_ne_true, if_neg hno]

theorem wantDrain_enters {w : Work} {force : Bool} (hm : w.s.lm.mode ≠ .drain)
    (h : force = true ∨ w.s.lm.drainPending = none) (hw : w.s.anyWashing = false) :
    w.wantDrain force = w.enterDrain .host := by
  cases force with
  | true =>
    unfold Work.wantDrain
    rw [State.mode_eq, if_neg hm, if_pos rfl]
  | false =>
    have hno : ¬ w.s.anyWashing = true := by rw [hw]; exact Bool.false_ne_true
    rw [wantDrain_asks hm (h.resolve_left Bool.false_ne_true), Work.askDrain, if_neg hno]

theorem anyWashing_closed {s : State} (h : ∀ b, (s.bc.get b).state = .closed) : s.anyWashing = false := by
  simp only [State.anyWashing, Six.toList, List.any_cons, List.any_nil, show s.bc.s1.state = _ from h .bay1,
    show s.bc.s2.state = _ from h .bay2, show s.bc.s3.state = _ from h .bay3, show s.bc.s4.state = _ from h .bay4,
    show s.bc.s5.state = _ from h .bay5, show s.bc.s6.state = _ from h .bay6]
  rfl

theorem drainState_withHeld (s : State) (l : List Held) (lp : Link) :
    drainState (withHeld s l) { lp with holding := l } = withHeld (drainState s lp) l := rfl

theorem drainSetPending (tag : Byte) {s : State} (hs : LinkReady s) (hm : s.lm.mode = .hold)
    (hd : s.lm.drainPending = none) (hw : s.anyWashing = true) :
    exec (.setMode tag (.fields ⟨some .drain, false⟩)) s =
      .next (((drainAsked s .host).notify (.mode (modeTold (drainAsked s .host) .hold .host none none))).answer
        ⟨0x90, tag, .ok, .mode .hold true⟩) := by
  have howner : ∀ held, (Work.mk (withHeld s held) []).owner (.setMode (.fields ⟨some .drain, false⟩)) =
      (⟨withHeld ((drainAsked s .host).notify (.mode (modeTold (drainAsked s .host) .hold .host none none))) held, []⟩,
        .modeNow) := by
    intro held
    rw [wantDrain_eq, wantDrain_asks (w := Work.mk (withHeld s held) []) (by show s.lm.mode ≠ _; rw [hm]; decide) hd,
      askDrain_hold (s := withHeld s held) hm hw, ← notify_withHeld]
    rfl
  rw [exec_settled (r := .setMode (.fields ⟨some .drain, false⟩)) rfl hs (howner _) (Work.settle_done _)
    ((notify_holding _ _).trans hs.1)]
  show Host.Outcome.next (State.answer _ ⟨0x90, tag, .ok, .mode s.lm.mode true⟩) = _
  rw [hm]

theorem drainSetEntered (tag : Byte) {force : Bool} {s : State} (hs : LinkReady s) (hm : s.lm.mode ≠ .drain)
    (hf : force = true ∨ s.lm.drainPending = none) (hp : NoPhase s) (hc : NoCall s) (hl : LanesIdle s)
    (hb : ∀ b : Bay, (s.bc.get b).state = .closed) (ht : LinesTold s) :
    exec (.setMode tag (.fields ⟨some .drain, force⟩)) s =
      .next (((drainState (drainBegun s) s.lp).modeNotice s.lm.mode .host (some s.vLines) (some 0)).answer
        ⟨0x90, tag, .ok, .mode .drain false⟩) := by
  have howner : ∀ held, (Work.mk (withHeld s held) []).owner (.setMode (.fields ⟨some .drain, force⟩)) =
      (⟨drainBegun (withHeld s held), [.drainCuts Bay.all 0 .host]⟩, .modeNow) := by
    intro held
    rw [wantDrain_eq, wantDrain_enters (w := Work.mk (withHeld s held) []) hm hf (anyWashing_closed hb)]
    rfl
  have hsettle : ∀ held, (Work.mk (drainBegun (withHeld s held)) [.drainCuts Bay.all 0 .host]).settle =
      withHeld ((drainState (drainBegun s) s.lp).modeNotice s.lm.mode .host (some s.vLines) (some 0)) held := by
    intro held
    rw [drain_settle (s := drainBegun (withHeld s held)) hp hl hc (fun b => (ht b).1)
      (fun b => by rw [show ((drainBegun (withHeld s held)).bc.get b).state = _ from hb b]; decide), ← modeNotice_withHeld]
    rfl
  exact exec_settled (r := .setMode (.fields ⟨some .drain, force⟩)) rfl hs (howner _) (hsettle _)
    ((notify_holding _ _).trans hs.1)

theorem modeDrain : Clause.ModeDrain := by
  intro tag force s hs
  refine ⟨fun hm => ?drained, fun hm hd => ?pending, fun hm hd hw => ?asked, fun hm hf hp hc hl hb ht => ?entered⟩
  case drained =>
    have howner : ∀ held, (Work.mk (withHeld s held) []).owner (.setMode (.fields ⟨some .drain, force⟩)) =
        (⟨withHeld s held, []⟩, .modeNow) := fun held => by
      rw [wantDrain_eq, wantDrain_drained (w := Work.mk (withHeld s held) []) hm]
    rw [exec_settled (r := .setMode (.fields ⟨some .drain, force⟩)) rfl hs (howner _) (Work.settle_done _) hs.1]
    show Host.Outcome.next (State.answer _ ⟨0x90, tag, .ok, .mode s.lm.mode _⟩) = _
    rw [hm]
  case pending =>
    have howner : ∀ held, (Work.mk (withHeld s held) []).owner (.setMode (.fields ⟨some .drain, false⟩)) =
        (⟨withHeld s held, []⟩, .modeNow) := fun held => by
      rw [wantDrain_eq, wantDrain_pending (w := Work.mk (withHeld s held) []) hm hd]
    rw [exec_settled (r := .setMode (.fields ⟨some .drain, false⟩)) rfl hs (howner _) (Work.settle_done _) hs.1]
    show Host.Outcome.next (State.answer _ ⟨0x90, tag, .ok, .mode s.lm.mode s.lm.drainPending.isSome⟩) = _
    rw [Option.isSome_iff_ne_none.mpr hd]
  case asked =>
    exact ⟨modeTold (drainAsked s .host) .hold .host none none, hm, rfl, rfl, rfl, drainSetPending tag hs hm hd hw⟩
  case entered =>
    refine ⟨_, modeTold (drainState (drainBegun s) s.lp) s.lm.mode .host (some s.vLines) (some 0),
      drainSetEntered tag hs hm hf hp hc hl hb ht, rfl, rfl, rfl, rfl, rfl, rfl, rfl, fun b => ?_, rfl, rfl, rfl, rfl, rfl,
      rfl, rfl, rfl, rfl, rfl, rfl, rfl, rfl, rfl⟩
    obtain ⟨hfilled, hstate, -⟩ := drainState_bay (drainBegun s) s.lp b
    refine ⟨hfilled, hstate.trans ?_⟩
    show (if (s.bc.get b).state = .empty then _ else (s.bc.get b).state) = _
    rw [hb b]
    rfl

/-! ## SET_MODE REFILL (R169, R175) -/

/-- The refill of a bay's lines that starts now (R167). -/
def refillNow (s : State) (b : Bay) : Refill :=
  ⟨s.refillSource (s.dt.settings.lineVolume.get b), s.dt.settings.lineVolume.get b,
    s.now + 1000 * ((s.dt.settings.lineVolume.get b + 1) / 2)⟩

/-- The state in which a bay is REFILLING. -/
def refillEntered (s : State) (b : Bay) (lp : Link) : State :=
  { s with
    bc := s.bc.set b ((s.bc.get b).restIn .refilling)
    lp := lp
    lm := { s.lm with
      refills := s.lm.refills.set b (some (refillNow s b))
      drainValve := s.lm.drainValve.set b false } }

theorem enterRefilling_eq (s : State) (b : Bay) (left : BayState) (released : Option Nat) :
    s.enterRefilling b left released = refillEntered s b
      (s.notify (.bayState (bayStateNotice ((s.bc.get b).restIn .refilling) b left released))).lp := by
  rw [State.enterRefilling, bayNotice_modBay]
  rfl

theorem enterRefilling_withHeld (s : State) (l : List Held) (b : Bay) (left : BayState) (released : Option Nat) :
    (withHeld s l).enterRefilling b left released = withHeld (s.enterRefilling b left released) l := by
  have htold := congrArg State.lp
    (notify_withHeld s l (.bayState (bayStateNotice ((s.bc.get b).restIn .refilling) b left released)))
  rw [enterRefilling_eq, enterRefilling_eq]
  exact congrArg (refillEntered s b) htold

theorem refillable_iff {s : State} {b : Bay} : s.refillable b = true ↔ (s.bc.get b).state = .closed ∧
    (s.bc.get b).service = .inService ∧ (s.bc.get b).lineFilled = false ∧ s.lm.refills.get b = none := by
  simp only [State.refillable, Bool.and_eq_true, decide_eq_true_eq, Bool.not_eq_true', Option.isNone_iff_eq_none,
    and_assoc]

theorem handle_refillChoice {s : State} {b : Bay} {x y : List Bay} (hm : s.lm.mode = .refill) (hall : Bay.all = x ++ b :: y)
    (hb : s.refillable b = true) (hx : ∀ c ∈ x, ¬ s.refillable c = true) :
    (Work.mk s []).handle .refillChoice = ⟨s.enterRefilling b .closed none, []⟩ := by
  have hfind : Bay.all.find? s.refillable = some b := by
    rw [hall, List.find?_append, List.find?_eq_none.mpr hx, List.find?_cons_of_pos hb]
    rfl
  show (Work.mk s []).refillChoice = _
  simp only [Work.refillChoice, State.mode_eq, hm, ne_eq, not_true_eq_false, if_false, hfind, Work.upd]

/-- The state in which REFILL stands and MODE has gone out. -/
def refillTold (s : State) : State :=
  (toldSupply (wanted s .refill none) .refill).modeNotice s.lm.mode .host none none

theorem exec_setMode_refill (tag : Byte) (force : Bool) {b : Bay} {before after : List Bay} {s : State} (hs : LinkReady s)
    (hm : s.lm.mode ≠ .refill) (hvalid : (s.qs.readings.getCh .ch5).valid = true)
    (hwarm : s.dt.settings.holdThreshold ≤ (s.qs.readings.getCh .ch5).value) (hl : LanesIdle s) (hc : s.vq.called = [])
    (hb : ∀ c, (s.bc.get c).state = .closed ∧ (s.bc.get c).service ≠ .outPending) (hall : Bay.all = before ++ b :: after)
    (hopen : s.refillable b = true) (hbefore : ∀ c ∈ before, ¬ s.refillable c = true) :
    exec (.setMode tag (.fields ⟨some .refill, force⟩)) s =
      .next (((refillTold s).enterRefilling b .closed none).answer ⟨0x90, tag, .ok, .mode .refill false⟩) := by
  obtain ⟨reclaim, htold⟩ := toldSupply_eq (wanted s .refill none) .refill
  have hstays : ∀ c, RestStays .refill (s.bc.get c) := by
    intro c _
    obtain ⟨hstate, hservice⟩ := hb c
    rw [hstate]
    exact ⟨restResult_shut rfl _ _, hservice⟩
  have howner : ∀ held, (Work.mk (withHeld s held) []).owner (.setMode (.fields ⟨some .refill, force⟩)) =
      (⟨withHeld (refillTold s) held, [.refillChoice]⟩, .modeNow) := by
    intro held
    have hwarm' : (withHeld s held).refillRefused = false := by
      show (!(s.qs.readings.getCh .ch5).valid ||
        decide ((s.qs.readings.getCh .ch5).value < s.dt.settings.holdThreshold)) = false
      rw [hvalid, decide_eq_false (not_lt.mpr hwarm)]
      rfl
    have hother := wantMode_other (s := withHeld s held) (ts := []) (new := .refill) hm
    have hchange := changeMode_still (s := (withHeld s held).dropDrain) (ts := []) (new := .refill) (origin := none) hl hc
      hstays .host
    show (Work.mk (withHeld s held) []).reqSetMode _ = _
    simp only [Work.reqSetMode, Work.withBody, hwarm', Bool.false_eq_true, if_false]
    rw [hother]
    refine Prod.ext (hchange.trans ?_) rfl
    rw [refillTold, ← modeNotice_withHeld, ← toldSupply_withHeld]
    rfl
  have hsettle : ∀ held, (Work.mk (withHeld (refillTold s) held) [.refillChoice]).settle =
      withHeld ((refillTold s).enterRefilling b .closed none) held := by
    intro held
    have hrefillable : ∀ c, (withHeld (refillTold s) held).refillable c = s.refillable c := by
      intro c
      rw [refillTold, htold]
      rfl
    have hmode : (withHeld (refillTold s) held).lm.mode = .refill := by
      rw [refillTold, htold]
      rfl
    rw [settle_done (handle_refillChoice hmode hall (by rw [hrefillable]; exact hopen)
      fun c h => by rw [hrefillable]; exact hbefore c h), Work.settle_done, enterRefilling_withHeld]
  have hheld : ((refillTold s).enterRefilling b .closed none).lp.holding = [] := by
    rw [enterRefilling_eq, refillTold, htold]
    exact (notify_holding _ _).trans ((notify_holding _ _).trans hs.1)
  rw [exec_settled (r := .setMode (.fields ⟨some .refill, force⟩)) rfl hs (howner _) (hsettle _) hheld, refillTold, htold]
  rfl

theorem modeRefill : Clause.ModeRefill := by
  intro tag force b before after s hs hm hvalid hwarm hl hc hb ⟨hall, ⟨hservice, hfilled, hrefill⟩, hbefore⟩
  have hexec := exec_setMode_refill tag force hs hm hvalid hwarm hl hc hb hall
    (refillable_iff.mpr ⟨(hb b).1, hservice, hfilled, hrefill⟩) fun c h hr => hbefore c h (refillable_iff.mp hr).2
  obtain ⟨reclaim, htold⟩ := toldSupply_eq (wanted s .refill none) .refill
  generalize hnt : modeTold (toldSupply (wanted s .refill none) .refill) s.lm.mode .host none none = nt
  have hbay := Six.get_set_same s.bc b ((s.bc.get b).restIn .refilling)
  have hsource : s.refillSource (s.dt.settings.lineVolume.get b) = .recycled ↔
      (s.dt.settings.lineVolume.get b : Int) ≤ s.lm.vRec - s.dt.settings.reserveFloor := by
    unfold State.refillSource State.settings
    split <;> simp_all
  have hstate : (refillTold s).enterRefilling b .closed none = { s with
      bc := s.bc.set b ((s.bc.get b).restIn .refilling)
      lp := ((s.notify (.mode nt)).notify
        (.bayState (bayStateNotice ((s.bc.get b).restIn .refilling) b .closed none))).lp
      sa := { s.sa with purgeTimer := purgeTimerIn (wanted s .refill none) .refill }
      lm := { (wanted s .refill none).lm with
        reclaim := reclaim
        refills := s.lm.refills.set b (some (refillNow s b))
        drainValve := s.lm.drainValve.set b false } } := by
    rw [enterRefilling_eq, refillTold, modeNotice_eq, hnt, htold]
    rfl
  rw [hstate] at hexec
  refine ⟨_, nt, bayStateNotice ((s.bc.get b).restIn .refilling) b .closed none, _, hexec, rfl, ?_, ?_, ?_, rfl, rfl, rfl,
    rfl, rfl, rfl, rfl, rfl, hsource, rfl, rfl, rfl, rfl, congrArg BayRecord.state hbay,
    (congrArg BayRecord.lineFilled hbay).trans hfilled, fun c hne => Six.get_set_ne s.bc _ _ _ hne, rfl, rfl, rfl, rfl, rfl⟩
  · rw [← hnt, htold]
    rfl
  · rw [← hnt]
    rfl
  · rw [← hnt]
    rfl

/-- Settles O25. -/
theorem modeSet : Obligations.ModeSet := ⟨modeClosed, modeOpenHold, modeRefill, modeDrain⟩

end Sys2Proof.Proofs.DepotModes
end

section
/-!
The deferral timer: a running phase is cut at the entry to DRAIN (R97, R173, R174).
-/

namespace Sys2Proof.Proofs.Drains

open Sys2Proof Sys2Proof.Machine Sys2Proof.Safety Sys2Proof.Proofs.Running Sys2Proof.Proofs.Bays Sys2Proof.Proofs.Phases
  Sys2Proof.Proofs.DepotModes

set_option Elab.async false

/-- The one phase that runs is cut, and its wash ends with MODE, before the rest of the entry to DRAIN. -/
theorem cut_settle {s : State} {b : Bay} {n : Nat} {v : Visit} {p : PhaseRun} {cause : ModeCause}
    (hheld : (s.bc.get b).held = some n) (hp : s.plan? b = some p) (hs : s.serving b = none)
    (hothers : ∀ c, c ≠ b → s.plan? c = none) (hd : s.lm.drainPending = none)
    (hend : DryWashEnd s (washEnded (phaseClosed s b p .cutMode) b n .mode) b n v (closingResult s p .cutMode) .mode) :
    (Work.mk s [.drainCuts Bay.all 0 cause]).settle =
      (Work.mk (washEnded (phaseClosed s b p .cutMode) b n .mode) [.drainRest 1 cause]).settle := by
  obtain ⟨x, y, hxy, hne⟩ := bays_around b
  obtain ⟨lp, totals, reclaim, hclosed, -⟩ := phaseClosed_eq (s := s) (b := b) (p := p) (cause := .cutMode) rfl rfl
  have hheld' : ((phaseClosed s b p .cutMode).bc.get b).held = some n := by rw [hclosed]; exact hheld
  have hcut : (Work.mk s []).handle (.drainCuts (b :: y) 0 cause) =
      ⟨phaseClosed s b p .cutMode, [.follow b p.visit p.number .cutMode false, .drainCuts y 1 cause]⟩ := by
    show (Work.mk s []).drainCuts (b :: y) 0 cause = _
    simp only [Work.drainCuts, hp, endPhase_eq hp hs]
    rfl
  have hfollow : (Work.mk (phaseClosed s b p .cutMode) []).handle (.follow b p.visit p.number .cutMode false) =
      ⟨washEnded (phaseClosed s b p .cutMode) b n .mode, [.drainCheck]⟩ := washEnd_eq hheld' [] .mode
  have hpending : (washEnded (phaseClosed s b p .cutMode) b n .mode).lm.drainPending = none := by
    rw [hend.loop]
    exact hd
  have hrest : ∀ c ∈ y, (washEnded (phaseClosed s b p .cutMode) b n .mode).plan? c = none := by
    intro c hc
    rw [State.plan?, hend.runners, Six.get_set_ne _ _ _ _ (hne c (Or.inr hc))]
    exact hothers c (hne c (Or.inr hc))
  have hlast := drainCuts_none (y := []) hrest 1 cause []
  rw [List.append_nil] at hlast
  calc (Work.mk s [.drainCuts Bay.all 0 cause]).settle
      = (Work.mk s [.drainCuts (b :: y) 0 cause]).settle := by
        rw [hxy]
        exact drainCuts_none (fun c hc => hothers c (hne c (Or.inl hc))) 0 cause []
    _ = (Work.mk (washEnded (phaseClosed s b p .cutMode) b n .mode) [.drainCheck, .drainCuts y 1 cause]).settle :=
        (settle_cons hcut).trans (settle_cons hfollow)
    _ = (Work.mk (washEnded (phaseClosed s b p .cutMode) b n .mode) [.drainCuts y 1 cause]).settle :=
        settle_done (handle_drainCheck_calm hpending)
    _ = _ := hlast.trans (drainCuts_last 1 cause [])

/-- The end of a wash leaves the line-filled flags as they were. -/
theorem lineFilled_washEnd {s w : State} {b : Bay} {n : Nat} {v : Visit} {r : PhaseResult} {ending : EndCause}
    (h : DryWashEnd s w b n v r ending) (c : Bay) : (w.bc.get c).lineFilled = (s.bc.get c).lineFilled := by
  obtain ⟨hbay, hbays⟩ := stopped_ne h.bays
  by_cases hcb : c = b
  · rw [hcb, hbay]
    rfl
  · rw [hbays c hcb]

/-- With no phase elsewhere none is left at the end of a wash. -/
theorem plans_washEnd {s w : State} {b : Bay} {n : Nat} {v : Visit} {r : PhaseResult} {ending : EndCause}
    (h : DryWashEnd s w b n v r ending) (hothers : ∀ c, c ≠ b → s.plan? c = none) (c : Bay) : w.plan? c = none := by
  by_cases hcb : c = b
  · rw [hcb]
    exact plan_cleared h.runners
  · rw [State.plan?, h.runners, Six.get_set_ne _ _ _ _ hcb]
    exact hothers c hcb

/-- The rest of the entry to DRAIN after the cut of the one phase. -/
theorem drainRest_washEnd {s w : State} {b : Bay} {n : Nat} {v : Visit} {r : PhaseResult} {ending : EndCause}
    (h : DryWashEnd s w b n v r ending) (hl : LanesIdle s) (hc : NoCall s)
    (hlines : ∀ c, (s.bc.get c).lineFilled = false → s.lm.heldLine.get c = 0) (cause : ModeCause) :
    ∃ lp, (Work.mk w [.drainRest 1 cause]).settle =
        (drainState w lp).modeNotice s.lm.mode cause (some s.vLines) (some 1) ∧
      ((∀ c, c ≠ b → (s.bc.get c).state ≠ .empty) → lp = w.lp) := by
  obtain ⟨hbay, hbays⟩ := stopped_ne h.bays
  have hheldLine : w.lm.heldLine = s.lm.heldLine := by rw [h.loop]
  have hlitres : w.vLines = s.vLines := by rw [State.vLines, hheldLine]; rfl
  have hmode : w.lm.mode = s.lm.mode := by rw [h.loop]
  obtain ⟨lp, hrest, hlp⟩ := drainRest_quiet (s := w) (fun l => by rw [h.lanes]; exact hl l)
    (by rw [NoCall, h.queues]; exact hc)
    (fun c hfilled => by rw [hheldLine]; exact hlines c ((lineFilled_washEnd h c).symm.trans hfilled)) [] 1 cause
  have hhandle : (Work.mk w []).handle (.drainRest 1 cause) = _ := hrest
  refine ⟨lp, by rw [settle_done hhandle, Work.settle_done, hlitres, hmode], fun hne => hlp fun c => ?_⟩
  by_cases hcb : c = b
  · rw [hcb, hbay]; nofun
  · rw [hbays c hcb]; exact hne c hcb

theorem exec_deferralExpiry {s : State} {due : Nat} (h : s.lm.deferral = some due) :
    exec .deferralExpiry s = .next (Work.mk (drainBegun (s.reach due)) [.drainCuts Bay.all 0 .deferral]).settle := by
  show onExpiry s s.lm.deferral _ = _
  rw [h, onExpiry_some]
  exact run_next (enterDrain_eq (s.reach due) [] .deferral) rfl

/-- Settles O57. -/
theorem drainEntered : Obligations.DrainEntered := by
  intro s
  refine ⟨fun h => ?idle, fun due n b v p hdue ht hl hc hst hheld hv hp hn hf hr hs hpost hwrite hcap hothers => ?cut⟩
  case idle =>
    show onExpiry s s.lm.deferral _ = _
    rw [h, onExpiry_none]
  case cut =>
    generalize hu : drainBegun (s.reach due) = u
    have hend : DryWashEnd u (washEnded (phaseClosed u b p .cutMode) b n .mode) b n v (closingResult u p .cutMode)
        .mode := by
      subst hu
      exact wash_closed_dry (s := drainBegun (s.reach due)) .cutMode .mode hv hn hf hr hpost hwrite hcap
    have hexec := exec_deferralExpiry hdue
    rw [hu, cut_settle (s := u) (b := b) (v := v) (by rw [← hu]; exact hheld) (by rw [← hu]; exact hp)
      (by rw [← hu]; exact hs) (fun c hne => by rw [← hu]; exact (hothers c hne).1) (by rw [← hu]; rfl) hend] at hexec
    generalize washEnded (phaseClosed u b p .cutMode) b n .mode = w at hend hexec
    subst hu
    obtain ⟨hbay, hbays⟩ := stopped_ne hend.bays
    have hplans := plans_washEnd hend fun c hne => (hothers c hne).1
    obtain ⟨lp, hrest, hlp⟩ := drainRest_washEnd hend hl hc (fun c => (ht c).1) .deferral
    replace hexec := hexec.trans (congrArg Host.Outcome.next hrest)
    have hcalls : NoCall w := by
      rw [NoCall, hend.queues]
      exact hc
    have hnotEmpty : (w.bc.get b).state ≠ .empty := by rw [hbay]; nofun
    obtain ⟨hfilledb, hstateb, hheldb⟩ := drainState_bay w lp b
    obtain ⟨hheldb, hholdb⟩ := hheldb hnotEmpty
    obtain ⟨hfin, hcause, hres⟩ := washedVisit_fields v (closingResult (drainBegun (s.reach due)) p .cutMode) .mode
    refine ⟨_, washedVisit v (closingResult (drainBegun (s.reach due)) p .cutMode) .mode,
      closingResult (drainBegun (s.reach due)) p .cutMode,
      doneNotice n { v.addResult (closingResult (drainBegun (s.reach due)) p .cutMode) with endCause := some .mode },
      modeTold (drainState w lp) s.lm.mode .deferral (some s.vLines) (some 1), hexec, hend.time, ?_, ?_, ?_,
      fun c hcb => ?_, hplans, hend.visit, hfin, hcause, hres, rfl, rfl, hf, hr, ?_, hcalls.1, hcalls.2, hend.posting,
      hend.ring, hend.places, hend.blend, ?_, ?_, rfl, rfl, ?_, ?_, ?_, rfl, rfl, ?_, ?_, ?_, ?_, fun c => ⟨?_, ?_⟩, rfl, rfl,
      rfl, ?_, rfl, rfl, rfl, rfl, rfl, fun hclosed => ?_, hend.tables, hend.lanes, hend.clock⟩
    · exact hstateb.trans ((if_neg hnotEmpty).trans (by rw [hbay]))
    · exact hheldb.trans (by rw [hbay]; exact hheld)
    · exact hholdb.trans (by rw [hbay])
    · obtain ⟨-, hstate, -⟩ := drainState_bay w lp c
      have hbefore : (w.bc.get c).state = .closed ∨ (w.bc.get c).state = .empty := by
        rw [hbays c hcb]
        exact (hothers c hcb).2
      refine hstate.trans ?_
      rcases hbefore with h | h <;> rw [h] <;> rfl
    · show State.carryOff _ (p.fresh + p.recycled) = 0
      simp [State.carryOff, hf, hr]
    · exact congrArg Sampler.demands hend.sampler
    · exact congrArg (fun a : Arbiter => { a with purgeTimer := none }) hend.supply
    · exact (congrArg Loop.drainPending hend.loop).trans rfl
    · exact (congrArg Loop.deferral hend.loop).trans rfl
    · exact (congrArg Loop.persist hend.loop).trans rfl
    · show w.lm.drained + w.lm.heldLine.toList.sum = _
      rw [hend.loop]
      rfl
    · exact (congrArg Loop.carried hend.loop).trans rfl
    · exact (congrArg Loop.vSet hend.loop).trans rfl
    · exact (congrArg Loop.vRec hend.loop).trans rfl
    · exact (drainState_bay w lp c).1
    · show (drainValves w.bc w.lm.drainValve).get c = _
      rw [drainValves_get, lineFilled_washEnd hend, hend.loop]
      rfl
    · exact List.length_append
    · have hnone : ∀ c, c ≠ b → ((drainBegun (s.reach due)).bc.get c).state ≠ .empty := by
        intro c hcb
        rw [show ((drainBegun (s.reach due)).bc.get c).state = _ from hclosed c hcb]
        nofun
      have hlink : (drainState w lp).lp = (s.notify (.visitDone (doneNotice n
          { v.addResult (closingResult (drainBegun (s.reach due)) p .cutMode) with endCause := some .mode }))).lp :=
        (hlp hnone).trans (hend.link.trans rfl)
      exact congrArg (fun k : Link => (k.pushNotice (.mode (modeTold (drainState w lp) s.lm.mode .deferral
        (some s.vLines) (some 1)))).pump) hlink

end Sys2Proof.Proofs.Drains
end

section
/-!
The sampler's events: a conversion that completes with no demand standing, the background periods, the end of the turbidity
hold, and the air reading with its frost hold and persist timer (R108 to R118, R170, R171).
-/

namespace Sys2Proof.Proofs.Conversions

open Sys2Proof Sys2Proof.Machine Sys2Proof.Safety Sys2Proof.Proofs.Running Sys2Proof.Proofs.SupplyChannels
  Sys2Proof.Proofs.DepotModes

set_option Elab.async false

/-! ## The converter's choice (R112) -/

/-- A converter that has chosen: IDLE, or converting a channel. -/
def Settled (c : Converter) : Prop := c = .idle ∨ ∃ ch u, c = .converting ch u

theorem choose_eq (s : State) (afterDefault : Bool) :
    ∃ c, Settled c ∧ s.choose afterDefault = { s with qs := { s.qs with converter := c } } := by
  unfold State.choose
  split
  case h_1 ch _ => exact ⟨_, Or.inr ⟨ch, _, rfl⟩, rfl⟩
  case h_2 => exact ⟨_, Or.inl rfl, rfl⟩

theorem chooseIfIdle_eq (s : State) : ∃ c, s.chooseIfIdle = { s with qs := { s.qs with converter := c } } := by
  unfold State.chooseIfIdle
  split
  · obtain ⟨c, -, hc⟩ := choose_eq s false
    exact ⟨c, hc⟩
  · exact ⟨s.qs.converter, rfl⟩

theorem chooseIfIdle_busy {s : State} {ch : Channel} {u : Nat} (h : s.qs.converter = .converting ch u) :
    s.chooseIfIdle = s := by
  simp only [State.chooseIfIdle, h]

theorem waiting_none {s : State} (h : NoDemand s) (ch : Channel) : s.qs.waiting ch = 0 := by
  rw [Sampler.waiting, demands_none h]
  rfl

/-- With no demand standing the first channel due is chosen. -/
theorem chosenChannel_due {s : State} {ch : Channel} {before after : List Channel} (hn : NoDemand s)
    (hall : Channel.all = before ++ ch :: after) (hdue : s.channelDue ch = true)
    (hbefore : ∀ c ∈ before, ¬ s.channelDue c = true) : s.chosenChannel false = some ch := by
  have hdemanded : ([Channel.ch2, .ch0, .ch1, .ch3, .ch4].find? fun ch =>
      decide (0 < s.qs.waiting ch) && !(decide (ch = .ch1) && s.qs.ch1Held)) = none := by
    rw [List.find?_eq_none]
    intro c _
    rw [waiting_none hn c]
    exact Bool.false_ne_true
  have hfirst : Channel.all.find? s.channelDue = some ch := by
    rw [hall, List.find?_append, List.find?_eq_none.mpr hbefore, List.find?_cons_of_pos hdue]
    rfl
  unfold State.chosenChannel
  rw [hdemanded]
  exact hfirst

theorem ageMs_valid {s : State} {r : Reading} {at_ : Nat} (hv : r.valid = true) (ht : r.takenAt = some at_) :
    s.ageMs r = some (s.now - at_) := by
  simp only [State.ageMs, hv, ht]

theorem channelDue_iff {s : State} {ch : Channel} {at_ : Nat} (hv : (s.qs.readings.getCh ch).valid = true)
    (ht : (s.qs.readings.getCh ch).takenAt = some at_) :
    s.channelDue ch = true ↔ 1000 * s.dt.settings.probePeriod.getCh ch ≤ s.now - at_ ∧
      (ch = .ch1 → s.qs.ch1Held = false) := by
  unfold State.channelDue State.settings
  simp only [ageMs_valid hv ht, Bool.and_eq_true, decide_eq_true_eq, Bool.not_eq_true', Bool.and_eq_false_iff,
    decide_eq_false_iff_not, imp_iff_not_or]

theorem channelDue_held {s : State} (h : s.qs.ch1Held = true) : ¬ s.channelDue .ch1 = true := by
  simp only [State.channelDue, h, decide_true, Bool.and_self, Bool.not_true, Bool.and_false]
  exact Bool.false_ne_true

/-! ## A conversion that completes (R109 to R111) -/

/-- The reading of a completed conversion is taken; the converter is to choose. -/
def converted (s : State) (ch : Channel) (code : BitVec 10) : State :=
  s.modSampler fun q =>
    { q with readings := q.readings.setCh ch (s.makeReading ch code), converter := .choosing }

/-- A DEFAULT reading of CH0. -/
def defaulted (s : State) (ch : Channel) (code : BitVec 10) : Bool :=
  decide (ch = .ch0) && !(s.makeReading ch code).compensated

/-- What a completed conversion hands out: the demands answered, the air reading, and the converter's choice. -/
def handedOut (u : State) (ch : Channel) (isDefault : Bool) : Work :=
  (Work.mk (u.dropAnswered u.answers) []).after
    ((if u.answers.isEmpty then [] else [.plans u.answers]) ++ (if ch = .ch5 then [.ch5] else []) ++
      [.chooseNext isDefault])

theorem completeConversion_eq {s : State} (hn : NoDemand s) (ch : Channel) (code : BitVec 10) :
    (Work.mk s []).completeConversion ch code =
      ⟨converted s ch code, (if ch = .ch5 then [.ch5] else []) ++ [.chooseNext (defaulted s ch code)]⟩ := by
  have hsatisfied : (if defaulted s ch code then converted s ch code
      else (converted s ch code).modSampler (·.satisfyAll ch (s.makeReading ch code))) = converted s ch code := by
    split
    · rfl
    · exact congrArg (fun q => ({ s with qs := q } : State))
        (satisfyAll_none (q := (converted s ch code).qs) (demands_none hn) _ _)
  have hanswers : (converted s ch code).answers = [] := answers_none hn
  have hcomplete : (Work.mk s []).completeConversion ch code = handedOut (if defaulted s ch code then converted s ch code
      else (converted s ch code).modSampler (·.satisfyAll ch (s.makeReading ch code))) ch (defaulted s ch code) := rfl
  rw [hcomplete, hsatisfied, handedOut, hanswers]
  rfl

theorem exec_conversionCompletion {s : State} {ch : Channel} {u : Nat} (code : BitVec 10)
    (h : s.qs.converter = .converting ch u) :
    exec (.conversionCompletion code) s = Machine.run (s.reach u) (·.completeConversion ch code) := by
  show execConversionCompletion code s = _
  rw [execConversionCompletion, h]

theorem exec_conversionCompletion_idle {s : State} (code : BitVec 10) (h : s.qs.converter = .idle) :
    exec (.conversionCompletion code) s = .next s := by
  show execConversionCompletion code s = _
  rw [execConversionCompletion, h]

theorem handle_chooseNext (s : State) (d : Bool) : (Work.mk s []).handle (.chooseNext d) = ⟨s.choose d, []⟩ := rfl

/-- What the air reading does to a depot without auto-frost. -/
theorem handle_ch5_off {s : State} (h : s.dt.settings.autoFrost = false) : (Work.mk s []).handle .ch5 = ⟨s, []⟩ := by
  have hno : ¬ s.dt.settings.autoFrost = true := by rw [h]; exact Bool.false_ne_true
  have hhold : ∀ v, (Work.mk s []).frostHold v = ⟨s, []⟩ := fun v => if_neg fun h => hno h.1
  have hpersist : ∀ v, s.frostPersist v = s := fun v => if_neg fun h => hno h.1
  show (Work.mk s []).airReading = _
  simp only [Work.airReading, hhold, Work.upd, hpersist]

theorem makeReading_fields (s : State) (ch : Channel) (code : BitVec 10) :
    (s.makeReading ch code).code = code ∧ (s.makeReading ch code).valid = true ∧
      (s.makeReading ch code).takenAt = some s.now ∧ (s.makeReading ch code).clamp = codeClamped code ∧
      (ch ≠ .ch0 → (s.makeReading ch code).value =
        calibrate (s.dt.settings.calLo.getCh ch) (s.dt.settings.calHi.getCh ch) code) := by
  cases ch with
  | ch0 => exact ⟨rfl, rfl, rfl, rfl, fun h => absurd rfl h⟩
  | _ => exact ⟨rfl, rfl, rfl, rfl, fun _ => rfl⟩

theorem makeReading_compensated {s : State} (code : BitVec 10) (h : s.young (s.qs.readings.getCh .ch2) 60 = true) :
    (s.makeReading .ch0 code).compensated = true ∧
      (s.makeReading .ch0 code).tempUsed = holdTemp (s.qs.readings.getCh .ch2).value ∧
      (s.makeReading .ch0 code).value =
        compensate (calibrate (s.dt.settings.calLo.getCh .ch0) (s.dt.settings.calHi.getCh .ch0) code)
          (holdTemp (s.qs.readings.getCh .ch2).value) := by
  simp only [State.makeReading, h, if_true, State.settings_eq, and_self]

theorem makeReading_default {s : State} (code : BitVec 10) (h : s.young (s.qs.readings.getCh .ch2) 60 = false) :
    (s.makeReading .ch0 code).compensated = false ∧ (s.makeReading .ch0 code).tempUsed = 25 ∧
      (s.makeReading .ch0 code).value =
        calibrate (s.dt.settings.calLo.getCh .ch0) (s.dt.settings.calHi.getCh .ch0) code := by
  simp only [State.makeReading, h, Bool.false_eq_true, if_false, State.settings_eq, true_and]
  exact (Figures.readingsCalibrated.2 _ 0).1

theorem young_of_age {s : State} {r : Reading} {at_ : Nat} (hv : r.valid = true) (ht : r.takenAt = some at_)
    (h : s.now - at_ ≤ 60000) : s.young r 60 = true := by
  simp only [State.young, ageMs_valid hv ht]
  exact decide_eq_true h

theorem not_young {s : State} {r : Reading}
    (h : r.valid = false ∨ ∃ at_, r.takenAt = some at_ ∧ 60000 < s.now - at_) : s.young r 60 = false := by
  cases hv : r.valid with
  | false => simp only [State.young, State.ageMs, hv]
  | true =>
    obtain ⟨at_, ht, hold⟩ := h.resolve_left (by rw [hv]; nofun)
    simp only [State.young, ageMs_valid hv ht]
    exact decide_eq_false (not_le.mpr hold)

theorem conversionMakesReading : Clause.ConversionMakesReading := by
  intro ch until_ code s
  refine ⟨exec_conversionCompletion_idle code, fun hconv hn hfrost => ?completes⟩
  case completes =>
    obtain ⟨c, hsettled, hchosen⟩ :=
      choose_eq (converted (s.reach until_) ch code) (defaulted (s.reach until_) ch code)
    have hair : (Work.mk (converted (s.reach until_) ch code) (if ch = .ch5 then [.ch5] else [])).settle =
        converted (s.reach until_) ch code := by
      refine LoopBook.settle_still fun t ht => ?_
      split at ht
      case isTrue h =>
        obtain rfl := List.mem_singleton.mp ht
        exact handle_ch5_off (hfrost h)
      case isFalse => cases ht
    obtain ⟨hcode, hvalid, htaken, hclamp, hvalue⟩ := makeReading_fields (s.reach until_) ch code
    have hread : (converted (s.reach until_) ch code).qs.readings.getCh ch = (s.reach until_).makeReading ch code :=
      Eight.getCh_setCh_same _ _ _
    refine ⟨{ converted (s.reach until_) ch code with qs := { (converted (s.reach until_) ch code).qs with
      converter := c } }, (exec_conversionCompletion code hconv).trans
      (run_next (completeConversion_eq (s := s.reach until_) hn ch code) ?_), ?_⟩
    · rw [Work.settle_append, hair, settle_done (handle_chooseNext _ _), Work.settle_done, hchosen]
    · refine ⟨rfl, ?_, ?_, ?_, ?_, fun h => ?_, ?_, fun d hd => Eight.getCh_setCh_ne _ _ _ _ hd, hsettled, rfl⟩
      · exact (congrArg Reading.code hread).trans hcode
      · exact (congrArg Reading.valid hread).trans hvalid
      · exact (congrArg Reading.takenAt hread).trans htaken
      · exact (congrArg Reading.clamp hread).trans hclamp
      · exact (congrArg Reading.value hread).trans (hvalue h)
      · rintro rfl
        refine ⟨fun at_ hv ht hage => ?_, fun h => ?_⟩
        · obtain ⟨h1, h2, h3⟩ := makeReading_compensated (s := s.reach until_) code (young_of_age hv ht hage)
          exact ⟨(congrArg Reading.compensated hread).trans h1, (congrArg Reading.tempUsed hread).trans h2,
            (congrArg Reading.value hread).trans h3⟩
        · obtain ⟨h1, h2, h3⟩ := makeReading_default (s := s.reach until_) code (not_young h)
          exact ⟨(congrArg Reading.compensated hread).trans h1, (congrArg Reading.tempUsed hread).trans h2,
            (congrArg Reading.value hread).trans h3⟩

/-! ## The background periods and the end of the turbidity hold (R112, R118) -/

theorem exec_backgroundPeriodDue {s : State} {ch : Channel} {at_ : Nat} (hv : (s.qs.readings.getCh ch).valid = true)
    (ht : (s.qs.readings.getCh ch).takenAt = some at_) :
    exec (.backgroundPeriodDue ch) s =
      .next (s.reach (at_ + 1000 * s.dt.settings.probePeriod.getCh ch)).chooseIfIdle := by
  show execBackgroundPeriodDue ch s = _
  simp only [execBackgroundPeriodDue, hv, ht]
  exact run_upd _ _

theorem exec_backgroundPeriodDue_invalid {s : State} {ch : Channel} (h : (s.qs.readings.getCh ch).valid = false) :
    exec (.backgroundPeriodDue ch) s = .next s := by
  show execBackgroundPeriodDue ch s = _
  simp only [execBackgroundPeriodDue, h]

theorem exec_holdTimerExpiry {s : State} {due : Nat} (h : s.qs.holdTimer = some due) :
    exec .holdTimerExpiry s = .next (s.reach due).endHold := by
  show onExpiry s s.qs.holdTimer _ = _
  rw [h]
  exact run_upd _ _

theorem samplerTimersAct : Clause.SamplerTimersAct := by
  refine ⟨fun ch before after at_ s => ⟨exec_backgroundPeriodDue_invalid, fun hv ht m hm => ?period⟩,
    fun s due => ⟨fun h => ?holdEnds, fun h => ?holdIdle⟩⟩
  case period =>
    rw [exec_backgroundPeriodDue hv ht]
    have hreach : s.reach (at_ + 1000 * s.dt.settings.probePeriod.getCh ch) = { s with now := m } := by
      rw [hm]
      rfl
    rw [hreach]
    refine ⟨fun ⟨c, u, hc⟩ => by rw [chooseIfIdle_busy (s := { s with now := m }) hc], fun hidle hn hall hheld hbefore => ?_⟩
    have hchosen : State.chosenChannel { s with now := m } false = some ch := by
      refine chosenChannel_due hn hall ((channelDue_iff (s := { s with now := m }) hv ht).mpr ⟨?_, hheld⟩) fun c hc hdue => ?_
      · show 1000 * s.dt.settings.probePeriod.getCh ch ≤ m - at_
        omega
      · rcases hbefore c hc with ⟨rfl, h1⟩ | ⟨hvalid, taken, htaken, hyoung⟩
        · exact channelDue_held (s := { s with now := m }) h1 hdue
        · exact absurd ((channelDue_iff (s := { s with now := m }) hvalid htaken).mp hdue).1 (not_le.mpr hyoung)
    have hchoose : State.choose { s with now := m } false = State.startConversion { s with now := m } ch := by
      simp only [State.choose, hchosen]
    have hchooseIdle : State.chooseIfIdle { s with now := m } = State.choose { s with now := m } false := by
      simp only [State.chooseIfIdle, hidle]
    rw [hchooseIdle, hchoose]
    rfl
  case holdEnds =>
    obtain ⟨c, hc⟩ := chooseIfIdle_eq ((s.reach due).modSampler fun q => { q with ch1Held := false, holdTimer := none })
    refine ⟨_, (exec_holdTimerExpiry h).trans (congrArg Host.Outcome.next hc), rfl, rfl, rfl, rfl, rfl⟩
  case holdIdle =>
    show onExpiry s s.qs.holdTimer _ = _
    rw [h, onExpiry_none]

/-! ## The air reading (R170, R171) -/

/-- The persist timer after an air reading with auto-frost ON. -/
def persistAfter (s : State) (v : Int) : Option Nat :=
  if v < s.dt.settings.drainThreshold then some (s.lm.persist.getD (s.now + 1000 * s.dt.settings.persistTime)) else none

theorem frostPersist_eq {s : State} (ha : s.dt.settings.autoFrost = true) (hm : s.lm.mode ≠ .drain) (v : Int) :
    s.frostPersist v = { s with lm := { s.lm with persist := persistAfter s v } } := by
  have hor : ∀ o : Option Nat, ∀ d, o.or (some d) = some (o.getD d) := by
    intro o d
    cases o <;> rfl
  unfold State.frostPersist persistAfter State.settings
  rw [if_pos ⟨ha, hm⟩]
  split
  · exact congrArg (fun o => ({ s with lm := { s.lm with persist := o } } : State)) (hor _ _)
  · rfl

/-- The move of the mode that an air reading brings. -/
inductive FrostMove (s : State) (v : Int) : DepotMode → Option HoldOrigin → Prop
  | holds : s.lm.mode = .opened → v < s.dt.settings.holdThreshold → FrostMove s v .hold (some .frost)
  | opens : s.lm.mode = .hold → s.lm.holdOrigin = some .frost → s.dt.settings.holdThreshold + 2 ≤ v →
      FrostMove s v .opened none

theorem FrostMove.washes {s : State} {v : Int} {new : DepotMode} {origin : Option HoldOrigin}
    (h : FrostMove s v new origin) : Machine.washes new = true ∧ new ≠ .refill ∧ new ≠ .drain := by
  cases h <;> exact ⟨rfl, nofun, nofun⟩

theorem frostHold_moves {s : State} {v : Int} {new : DepotMode} {origin : Option HoldOrigin}
    (ha : s.dt.settings.autoFrost = true) (hd : s.lm.drainPending = none) (h : FrostMove s v new origin)
    (ts : List Task) : (Work.mk s ts).frostHold v = (Work.mk s ts).changeMode new origin .frost := by
  unfold Work.frostHold State.settings
  dsimp only
  rw [if_pos ⟨ha, hd⟩, State.mode_eq]
  cases h with
  | holds hm hv => rw [if_pos hv, if_pos hm]
  | opens hm ho hv =>
    have hwarm : ¬ v < s.dt.settings.holdThreshold := by omega
    rw [if_neg hwarm, if_pos ⟨hv, hm, ho⟩]

theorem frostHold_stays {s : State} {v : Int} (h : (s.lm.mode = .opened ∧ s.dt.settings.holdThreshold ≤ v) ∨
      (s.lm.mode = .hold ∧ (v < s.dt.settings.holdThreshold + 2 ∨ s.lm.holdOrigin ≠ some .frost)))
    (ts : List Task) : (Work.mk s ts).frostHold v = ⟨s, ts⟩ := by
  unfold Work.frostHold State.settings
  dsimp only
  rw [State.mode_eq]
  rcases h with ⟨hm, hv⟩ | ⟨hm, hv⟩ <;> rw [hm]
  · have hno : ¬ (s.dt.settings.holdThreshold + 2 ≤ v ∧ DepotMode.opened = .hold ∧ s.lm.holdOrigin = some .frost) :=
      fun ⟨_, h, _⟩ => nomatch h
    rw [if_neg (not_lt.mpr hv), if_neg hno, ite_self]
  · have hno : ¬ (s.dt.settings.holdThreshold + 2 ≤ v ∧ DepotMode.hold = .hold ∧ s.lm.holdOrigin = some .frost) := by
      rintro ⟨hle, -, ho⟩
      exact hv.elim (fun h => absurd hle (not_le.mpr h)) fun h => h ho
    have hopen : ¬ DepotMode.hold = .opened := nofun
    rw [if_neg hopen, if_neg hno, ite_self, ite_self]

/-- The state after an air reading that moves the mode. -/
def frostMoved (s : State) (v : Int) (new : DepotMode) (origin : Option HoldOrigin) : State :=
  ((toldSupply (s.putMode new origin) new).modeNotice s.lm.mode .frost none none).frostPersist v

theorem handle_ch5_moves {s : State} {new : DepotMode} {origin : Option HoldOrigin}
    (ha : s.dt.settings.autoFrost = true) (hd : s.lm.drainPending = none)
    (h : FrostMove s (s.qs.readings.getCh .ch5).value new origin) (hl : LanesIdle s) (hc : s.vq.called = [])
    (hb : BaysSteady s) :
    (Work.mk s []).handle .ch5 = ⟨frostMoved s (s.qs.readings.getCh .ch5).value new origin, modeTasks new⟩ := by
  obtain ⟨hwashes, hrefill, -⟩ := h.washes
  have hchange := changeMode_still (ts := []) (origin := origin) hl hc (restStays_of_steady hb hwashes) .frost
  rw [if_neg hrefill, List.append_nil] at hchange
  show (Work.mk s []).airReading = _
  simp only [Work.airReading, frostHold_moves ha hd h, hchange, Work.upd]
  rfl

theorem handle_ch5_stays {s : State} (ha : s.dt.settings.autoFrost = true)
    (h : (s.lm.mode = .opened ∧ s.dt.settings.holdThreshold ≤ (s.qs.readings.getCh .ch5).value) ∨
      (s.lm.mode = .hold ∧ ((s.qs.readings.getCh .ch5).value < s.dt.settings.holdThreshold + 2 ∨
        s.lm.holdOrigin ≠ some .frost))) :
    (Work.mk s []).handle .ch5 =
      ⟨{ s with lm := { s.lm with persist := persistAfter s (s.qs.readings.getCh .ch5).value } }, []⟩ := by
  have hm : s.lm.mode ≠ .drain := by
    rcases h with ⟨hm, -⟩ | ⟨hm, -⟩ <;> rw [hm] <;> nofun
  show (Work.mk s []).airReading = _
  simp only [Work.airReading, frostHold_stays h, Work.upd, frostPersist_eq ha hm]

/-- A completed conversion of CH5: what the air reading comes to, and then the converter's choice. -/
theorem exec_airReading {s u v : State} {until_ : Nat} {code : BitVec 10} {ts : List Task}
    (hconv : s.qs.converter = .converting .ch5 until_) (hn : NoDemand s)
    (hair : (Work.mk (converted (s.reach until_) .ch5 code) []).handle .ch5 = ⟨u, ts⟩) (hset : (Work.mk u ts).settle = v) :
    ∃ c, exec (.conversionCompletion code) s = .next { v with qs := { v.qs with converter := c } } := by
  obtain ⟨c, -, hchosen⟩ := choose_eq v (defaulted (s.reach until_) .ch5 code)
  refine ⟨c, (exec_conversionCompletion code hconv).trans
    (run_next (completeConversion_eq (s := s.reach until_) hn .ch5 code) ?_)⟩
  show (Work.mk _ (.ch5 :: [.chooseNext _])).settle = _
  rw [settle_cons hair, Work.settle_append, hset, settle_done (handle_chooseNext _ _), Work.settle_done, hchosen]

theorem airReadingHolds : Clause.AirReadingHolds := by
  intro until_ code value m s hconv hn ha hd hl hc hb hcalm hvalue hm
  have hread : ((converted (s.reach until_) .ch5 code).qs.readings.getCh .ch5).value = value := by
    obtain ⟨-, -, -, -, hcal⟩ := makeReading_fields (s.reach until_) .ch5 code
    have hsame := Eight.getCh_setCh_same s.qs.readings .ch5 ((s.reach until_).makeReading .ch5 code)
    exact (congrArg Reading.value hsame).trans ((hcal nofun).trans hvalue.symm)
  refine ⟨fun new origin hmove => ?moves, fun hstays => ?stays⟩
  case moves =>
    have hmove : FrostMove (converted (s.reach until_) .ch5 code)
        ((converted (s.reach until_) .ch5 code).qs.readings.getCh .ch5).value new origin := by
      rw [hread]
      rcases hmove with ⟨hopen, hv, rfl, rfl⟩ | ⟨hhold, ho, hv, rfl, rfl⟩
      · exact .holds hopen hv
      · exact .opens hhold ho hv
    obtain ⟨-, -, hdrain⟩ := hmove.washes
    obtain ⟨reclaim, htold⟩ := toldSupply_eq ((converted (s.reach until_) .ch5 code).putMode new origin) new
    have hair := handle_ch5_moves (s := converted (s.reach until_) .ch5 code) ha hd hmove hl hc.2 hb
    rw [hread] at hair
    generalize hnt : modeTold (toldSupply ((converted (s.reach until_) .ch5 code).putMode new origin) new) s.lm.mode .frost
      none none = nt
    have hmoved : frostMoved (converted (s.reach until_) .ch5 code) value new origin = { s with
        now := m
        qs := (converted (s.reach until_) .ch5 code).qs
        lp := (s.notify (.mode nt)).lp
        sa := { s.sa with purgeTimer := purgeTimerIn (s.reach until_) new }
        lm := { s.lm with
          mode := new
          holdOrigin := origin
          reclaim := reclaim
          persist := persistAfter (s.reach until_) value } } := by
      subst hm
      rw [frostMoved, modeNotice_eq]
      show State.frostPersist (State.notify _ (.mode (modeTold _ s.lm.mode _ _ _))) _ = _
      rw [hnt, htold, frostPersist_eq (by exact ha) (by exact hdrain)]
      rfl
    rw [hmoved] at hair
    obtain ⟨c, hexec⟩ := exec_airReading hconv hn hair
      (settle_modeTasks (by exact hc.1) (by exact hcalm.1) (by exact hcalm.2) new)
    refine ⟨_, nt, hexec, rfl, ?_, ?_, ?_, ?_, ?_, ?_⟩
    · rw [← hnt, htold]; rfl
    · rw [← hnt]; rfl
    · rw [← hnt]; rfl
    · rw [← hnt, htold]; rfl
    · rw [← hnt, htold]; exact hread
    · subst hm; rfl
  case stays =>
    have hair := handle_ch5_stays (s := converted (s.reach until_) .ch5 code) ha (by rw [hread]; exact hstays)
    rw [hread] at hair
    obtain ⟨c, hexec⟩ := exec_airReading hconv hn hair (Work.settle_done _)
    refine ⟨_, hexec, ?_⟩
    subst hm
    rfl

/-- Settles O49. -/
theorem conversionsAndSamplerTimers : Obligations.ConversionsAndSamplerTimers :=
  ⟨conversionMakesReading, samplerTimersAct, airReadingHolds⟩

end Sys2Proof.Proofs.Conversions
end

section
/-!
The starts: what a cold start leaves of every block, and what a warm restart keeps of a depot at rest (R19, R20, R44, R63,
R64, R87, R88, R107, R122, R158, R159, R177, R196, R197, R205).
-/

namespace Sys2Proof.Proofs.Starts

open Sys2Proof Sys2Proof.Machine Sys2Proof.Safety Sys2Proof.Proofs.Running Sys2Proof.Proofs.Bays
  Sys2Proof.Proofs.Conversions

set_option Elab.async false

/-! ## The cold start -/

/-- Every block at its cold values and START queued, before the converter's first choice. -/
def coldBlocks (s : State) (levels : FieldLevels) : State :=
  ({ State.cold levels with pending := s.pending, freshCounter := s.freshCounter } : State).notify
    (.start coldStartNotice)

theorem exec_coldStart (s : State) (levels : FieldLevels) :
    exec (.coldStart levels) s = .next ((coldBlocks s levels).choose false) := rfl

/-- No reading is valid: CH0 is converted first. -/
theorem cold_choose (s : State) (levels : FieldLevels) :
    (coldBlocks s levels).choose false = (coldBlocks s levels).startConversion .ch0 := by
  have hchosen : (coldBlocks s levels).chosenChannel false = some .ch0 := rfl
  simp only [State.choose, hchosen]

/-- Settles O15. -/
theorem coldStartLeaves : Obligations.ColdStartLeaves := by
  intro levels s
  refine ⟨_, (exec_coldStart s levels).trans (congrArg Host.Outcome.next (cold_choose s levels)), rfl, fun l => ?_, rfl,
    fun b => ?_, rfl, rfl, rfl, rfl, rfl, rfl, rfl, rfl, rfl, rfl⟩
  · cases l <;> rfl
  · cases b <;> rfl

/-! ## The warm restart of a depot at rest -/

/-- A depot that a warm restart finds at rest: CLOSED or in DRAIN, with no visit, no phase and no held bay. -/
structure AtRest (s : State) : Prop where
  mode : s.lm.mode = .closed ∨ s.lm.mode = .drain
  pending : s.lm.drainPending = none
  visits : s.vq.visits = []
  queue : s.vq.queue = []
  called : s.vq.called = []
  summary : s.cu.pendingSummary = none
  posting : s.cu.posting = []
  plans : ∀ b, s.plan? b = none
  held : ∀ b, (s.bc.get b).held = none
  service : ∀ b, (s.bc.get b).service ≠ .outPending

theorem AtRest.stopped {s : State} (h : AtRest s) :
    washes s.lm.mode = false ∧ circulates s.lm.mode = false ∧ s.lm.mode ≠ .refill := by
  rcases h.mode with hm | hm <;> rw [hm] <;> exact ⟨rfl, rfl, nofun⟩

/-- Every block reset and the retained state kept, before START. -/
def warmBlocks (s : State) : State := (s.warmBase .quiet).decideReclaim

theorem warmBlocks_bay (s : State) (b : Bay) : (warmBlocks s).bc.get b = (s.bc.get b).kept ⟨false, false⟩ := by
  cases b <;> rfl

theorem warmBlocks_runner (s : State) (b : Bay) : (warmBlocks s).pr.get b = (s.pr.get b).kept s.now := by
  cases b <;> rfl

theorem kept_empty {r : BayRecord} (h : r.held = none) (l : BayLevels) : (r.kept l).state = .closed := by
  rw [BayRecord.kept, h]
  rfl

theorem warmBlocks_plan {s : State} {b : Bay} (h : s.plan? b = none) : (warmBlocks s).plan? b = none := by
  rw [State.plan?, warmBlocks_runner]
  show (s.pr.get b).plan.map _ = none
  rw [show (s.pr.get b).plan = none from h]
  rfl

/-- The loop, the supply and the Charge Unit of a depot at rest. -/
theorem warmBlocks_loop {s : State} (h : AtRest s) : (warmBlocks s).lm = { s.lm with
    reclaim := false, deferral := none, persist := none, refills := Six.all none, discharge := none, strayReclaim := 0 } := by
  have hoff : (s.warmBase .quiet).reclaimOn = false := by
    show (circulates s.lm.mode && _ && _) = false
    rw [h.stopped.2.1]
    rfl
  rw [warmBlocks, State.decideReclaim, hoff]
  rfl

theorem warmBlocks_supply {s : State} (h : AtRest s) : ∃ e, (warmBlocks s).sa =
    { channels := ⟨.idle, .idle⟩, requests := Six.all false, priority := [.bay1, .bay2, .bay3, .bay4, .bay5, .bay6],
      debt := 1, purgeTimer := none, purge := none, pointer := .cart4, cycle := .window, cycleEnd := e } := by
  have hno : ¬ circulates s.lm.mode = true := by rw [h.stopped.2.1]; exact Bool.false_ne_true
  refine ⟨if s.dt.settings.leadMode = .fixed then some (1000 * s.dt.settings.drawMax) else none, ?_⟩
  show warmArbiter s.settings s.mode = _
  rw [warmArbiter, State.mode_eq, if_neg hno]
  rfl

theorem warmBlocks_charges {s : State} (h : AtRest s) : (warmBlocks s).cu = { s.cu with
    ring := { s.cu.ring with entries := s.cu.ring.entries.map (·.kept s.now) }
    pendingSummary := none
    posting := []
    writing := none } := by
  show s.cu.kept s.now = _
  rw [Charges.kept, h.posting, h.summary]
  rfl

/-! ### The steps of the blocks that find nothing -/

theorem interruptPhases_none {w : Work} (h : ∀ b, w.s.plan? b = none) : w.interruptPhases = w := by
  unfold Work.interruptPhases
  generalize Bay.all = l
  induction l with
  | nil => rfl
  | cons b rest ih =>
    rw [List.foldl_cons, show w.endPhase b .interrupted false = w by simp only [Work.endPhase, h b], ih]

theorem returnCalled_none {s : State} (hv : s.vq.visits = []) (hq : s.vq.queue = []) (hc : s.vq.called = []) :
    s.returnCalled.cutQueue = s := by
  have hqueues : ∀ q : VisitQueue, q.visits = [] → q.queue = [] → q.called = [] → { q with
      visits := q.visits.map fun v => (v.1, v.2.interrupt), queue := q.called ++ q.queue, called := [] } = q := by
    rintro ⟨_, _, _, _⟩ rfl rfl rfl
    rfl
  have hsame : s.returnCalled = s := congrArg (fun q => ({ s with vq := q } : State)) (hqueues s.vq hv hq hc)
  rw [hsame, State.cutQueue, hq]
  rfl

/-- A CLOSED bay with no visit and no vehicle is rebuilt as it is; a free value is used. -/
theorem rebuildBay_still {s : State} {b : Bay} (hm : washes s.lm.mode = false) (hh : (s.bc.get b).held = none)
    (hst : (s.bc.get b).state = .closed) (hsvc : (s.bc.get b).service ≠ .outPending)
    (hseat : (s.bc.get b).seated = false) (ts : List Task) : (Work.mk s ts).rebuildBay b = ⟨s.useFresh, ts⟩ := by
  have hres := (DepotModes.restResult_shut hm (s.bc.get b).service (s.bc.get b).lineFilled).trans hst.symm
  have htest := DepotModes.restTestFrom_still hres hsvc ts
  simp only [Work.rebuildBay, hh, hseat, Bool.false_eq_true, if_false, Work.restTestLost, htest, Work.upd]

/-- Every bay of a depot at rest is rebuilt as it is. -/
theorem rebuildBays_still {s : State} (hm : washes s.lm.mode = false)
    (hb : ∀ b, (s.bc.get b).held = none ∧ (s.bc.get b).state = .closed ∧ (s.bc.get b).service ≠ .outPending ∧
      (s.bc.get b).seated = false) (l : List Bay) (ts : List Task) :
    ∃ n, l.foldl Work.rebuildBay ⟨s, ts⟩ = ⟨{ s with freshCounter := n }, ts⟩ := by
  induction l generalizing s with
  | nil => exact ⟨s.freshCounter, rfl⟩
  | cons b rest ih =>
    obtain ⟨hheld, hstate, hservice, hseated⟩ := hb b
    obtain ⟨n, hn⟩ := ih (s := s.useFresh) hm hb
    exact ⟨n, by rw [List.foldl_cons, rebuildBay_still hm hheld hstate hservice hseated, hn]; rfl⟩

theorem strayCount_none {s : State} (h : ∀ b, (s.bc.get b).seated = false) : s.strayCount = 0 := by
  have hfree : ∀ r ∈ s.bc.toList, ¬ (r.held.isNone && r.seated) = true := by
    intro r hr
    have hseat : r.seated = false := by
      simp only [Six.toList, List.mem_cons, List.not_mem_nil, or_false] at hr
      rcases hr with rfl | rfl | rfl | rfl | rfl | rfl
      exacts [h .bay1, h .bay2, h .bay3, h .bay4, h .bay5, h .bay6]
    rw [hseat, Bool.and_false]
    exact Bool.false_ne_true
  rw [State.strayCount, List.filter_eq_nil_iff.mpr hfree]
  rfl

/-- The state that a warm restart leaves of a depot at rest: START is told, and the converter has chosen. -/
def warmStarted (s : State) (cause : RestartCause) (fresh : Nat) (c : Converter) : State :=
  { (warmBlocks s).notify (.start ((warmBlocks s).warmStartNotice cause)) with
    freshCounter := fresh
    qs := { (warmBlocks s).qs with converter := c } }

theorem warmRestart_rest {s : State} (h : AtRest s) (cause : RestartCause) :
    ∃ fresh c, (Work.mk s []).warmRestart cause .quiet =
      ⟨warmStarted s cause fresh c, [.matchPass, .purgeTest, .refillChoice]⟩ := by
  generalize htold : (warmBlocks s).notify (.start ((warmBlocks s).warmStartNotice cause)) = u
  have hmode : u.lm.mode = s.lm.mode := by rw [← htold]; rfl
  have hbays : ∀ b, (u.bc.get b).held = none ∧ (u.bc.get b).state = .closed ∧ (u.bc.get b).service ≠ .outPending ∧
      (u.bc.get b).seated = false := by
    intro b
    rw [show u.bc.get b = (s.bc.get b).kept ⟨false, false⟩ by rw [← htold]; exact warmBlocks_bay s b]
    exact ⟨h.held b, kept_empty (h.held b) _, h.service b, rfl⟩
  have hplans : ∀ b, u.plan? b = none := by
    intro b
    rw [← htold]
    exact warmBlocks_plan (h.plans b)
  have hvisits : u.vq = s.vq := by rw [← htold]; rfl
  have hcharges : u.cu = (warmBlocks s).cu := by rw [← htold]; rfl
  obtain ⟨n, hrebuilt⟩ := rebuildBays_still (hmode ▸ h.stopped.1) hbays Bay.all []
  obtain ⟨c, hchosen⟩ := chooseIfIdle_eq { u with freshCounter := n }
  refine ⟨n, c, ?_⟩
  have hsteps : (Work.mk s []).warmRestart cause .quiet =
      ((((Bay.all.foldl Work.rebuildBay (((Work.mk u []).interruptPhases).upd (·.returnCalled.cutQueue))).upd
        (·.testPending.startWrite.chooseIfIdle)).after [.matchPass, .purgeTest]).resumeMode) := by
    rw [← htold]
    rfl
  have hpending : { u with freshCounter := n }.testPending = { u with freshCounter := n } :=
    Visits.testPending_none (show u.cu.pendingSummary = none by rw [hcharges, warmBlocks_charges h])
  have hwrite : { u with freshCounter := n }.startWrite = { u with freshCounter := n } :=
    ChargeUnit.startWrite_empty (show u.cu.posting = [] by rw [hcharges, warmBlocks_charges h])
  rw [hsteps, interruptPhases_none (w := Work.mk u []) hplans]
  dsimp only [Work.upd]
  rw [returnCalled_none (by rw [hvisits]; exact h.visits) (by rw [hvisits]; exact h.queue)
    (by rw [hvisits]; exact h.called), hrebuilt]
  dsimp only
  rw [hpending, hwrite, hchosen]
  have hdrain : u.lm.drainPending = none := by rw [← htold]; exact h.pending
  simp only [Work.after, Work.resumeMode, hdrain, List.nil_append, List.cons_append]
  rw [warmStarted, htold, ← htold]
  rfl

theorem exec_warmRestart {s : State} (h : AtRest s) (cause : RestartCause) :
    ∃ fresh c, exec (.warmRestart cause .quiet) s = .next (warmStarted s cause fresh c) := by
  obtain ⟨fresh, c, hrun⟩ := warmRestart_rest h cause
  have hrow : exec (.warmRestart cause .quiet) s = Machine.run s fun w => w.warmRestart cause .quiet := rfl
  refine ⟨fresh, c, hrow.trans (run_next (f := fun w => w.warmRestart cause .quiet) hrun ?_)⟩
  obtain ⟨hwashes, -, hrefill⟩ := h.stopped
  have hready : (warmStarted s cause fresh c).purgeReady = false := by
    rw [← Bool.not_eq_true, SupplyChannels.purgeReady_iff]
    rintro ⟨-, -, -, -, hm, -⟩
    have hm : s.lm.mode = .opened ∨ s.lm.mode = .hold := hm
    rcases hm with hm | hm <;> rw [hm] at hwashes <;> cases hwashes
  have hchoice : (Work.mk (warmStarted s cause fresh c) []).handle .refillChoice = ⟨warmStarted s cause fresh c, []⟩ :=
    if_pos hrefill
  rw [settle_done (Work.handle_matchPass_empty (warmStarted s cause fresh c) h.queue), settle_done (Work.handle_purgeTest_calm _ hready),
    settle_done hchoice, Work.settle_done]

/-- Settles O16. -/
theorem warmRestartKeeps : Obligations.WarmRestartKeeps := by
  intro cause s hmode hpending hvisits hqueue hcalled hsummary hposting hbays
  have h : AtRest s := ⟨hmode, hpending, hvisits, hqueue, hcalled, hsummary, hposting, fun b => (hbays b).1,
    fun b => (hbays b).2.1, fun b => (hbays b).2.2⟩
  obtain ⟨fresh, c, hexec⟩ := exec_warmRestart h cause
  obtain ⟨e, hsupply⟩ := warmBlocks_supply h
  have hcharges := warmBlocks_charges h
  refine ⟨_, hexec, rfl, rfl, rfl, rfl, ?_, rfl, rfl, rfl, rfl, ?_, rfl, rfl, rfl, rfl, rfl, rfl,
    ⟨(warmBlocks s).warmStartNotice cause, rfl, rfl, ?_, ?_, ?_⟩, warmBlocks_loop h, ?_, fun b => ?_, fun ch => ?_, rfl, rfl,
    rfl, rfl⟩
  · show (s.cu.ring.entries.map (·.kept s.now)).map _ = _
    rw [List.map_map]
    rfl
  · exact congrArg Charges.pendingSummary hcharges
  · show (s.vq.visits.filter _).length = 0
    rw [hvisits]
    rfl
  · show s.vq.called.length + s.vq.queue.length - 24 = 0
    rw [hcalled, hqueue]
    rfl
  · exact strayCount_none fun b => by rw [warmBlocks_bay]; rfl
  · have harbiter : (warmStarted s cause fresh c).sa = _ := hsupply
    rw [harbiter]
  · have hbay : (warmStarted s cause fresh c).bc.get b = (s.bc.get b).kept ⟨false, false⟩ := warmBlocks_bay s b
    rw [hbay]
    exact ⟨rfl, rfl, kept_empty (h.held b) _, h.held b, warmBlocks_plan (h.plans b)⟩
  · cases ch <;> rfl

end Sys2Proof.Proofs.Starts
end
